-- ==== Sys2Proof/Word.lean ====
section
/-! DEFINITION. The plain word types of the model and the fixed cycle counts of the manual. -/

namespace Sys2Proof

/-- A byte of a frame, a time record or the profile. -/
abbrev Byte := BitVec 8

/-- A Galmet station number, 0 to 13 (00, Station numbers). -/
abbrev Station := Fin 14

/-- Cycles of OSC10M in one station second without adjustment (R1). -/
abbrev secondCycles : Nat := 10000000

/-- Cycles between two tick points (R88). -/
abbrev tickCycles : Nat := 100000

/-- Cycles between two millisecond boundaries (R2). -/
abbrev millisecondCycles : Nat := 10000

end Sys2Proof
end

