-- ==== Sys2Proof/Syntax.lean ====
section
/-! DEFINITION. The commands of the part: one constructor per row of spec/opcode_table.json, with the operands that
come from outside the part. -/

namespace Sys2Proof

/-- How a profile read attempt ended, as the two-wire bus showed it (R189). -/
inductive ProfileEnd
  /-- The attempt reached its stop and yielded 48 bytes. -/
  | stopped (bytes : Vector Byte 48)
  /-- The memory withheld the acknowledgement of one of the three bytes the part sends (0, 1 or 2). -/
  | notAcknowledged (byte : Nat)
  /-- PSDA read low where the part must make a start or a stop condition. -/
  | heldLow
  deriving DecidableEq, Repr

/-- The four housekeeping inputs in the units of R160: mV, mA, 0.1 °C, 0.1 °C.
The current is the mean over the interval of counting since the previous reading. -/
structure Readings where
  voltage : Int
  current : Int
  batteryTemp : Int
  enclosureTemp : Int
  deriving DecidableEq, Repr

/-- The three frame kinds whose requests carry a deadline (R69). -/
inductive DeadlineKind
  | beacon
  | heat
  | reply
  deriving DecidableEq, Repr

/-- The commands. -/
inductive Instr
  | powerOnReset
  | pinReset
  /-- The levels of STN3..STN0, RATE (true: 115,200 bit/s) and HATCH (true: open) at the release (R188, R194). -/
  | resetRelease (stn : BitVec 4) (fast : Bool) (hatchOpen : Bool)
  | profileReadAttempt
  | profileAttemptEnd (result : ProfileEnd)
  | profileAttemptTimeout
  /-- The boundary event, with what the converter's four inputs show at it (R159, R160). -/
  | secondBoundaryEvent (inputs : Readings)
  | ppsEdge
  | edgeMissing
  /-- A REFRX character: its data byte and its stop bit (true: high) (R6). -/
  | refrxCharacter (data : Byte) (stop : Bool)
  | refrxGapTimeout
  | outlierLimit
  | referenceEvaluation
  | referenceReturn
  | referenceLoss
  | consecutiveMissingLimit
  | holdoverAgeLimit
  | peerEvaluation
  /-- The 169 line samples of a character, from sample 1 of bit time 0 (bit 0 here) to sample 9 of bit time 10
  (bit 168); a 1 is recessive (R28). -/
  | characterReceived (samples : BitVec 169)
  | lineIdle
  | lineFault
  | choice
  | txStart
  | arbitrationLoss
  | driveFault
  | inboundBeacon
  | inboundOnset
  | inboundCoda
  | inboundHeat
  | inboundAlert
  | inboundAlertRaise
  | inboundQuery
  | inboundReply
  | stationConflictExpiry
  | timePartAgeOut (row : Station)
  | heatPartAgeOut (row : Station)
  | triggerPartAgeOut (row : Station)
  | requestDeadline (kind : DeadlineKind)
  | beaconCandidatePoint
  | portFrameOpen
  /-- The 72 bits of the set in the order taken: bit 1 is the most significant here (R79). -/
  | setArrival (bits : BitVec 72)
  | portFrameClose
  | tick
  | stall
  | warmupEnd
  | forcedEnd
  | holdoffEnd
  | vote
  | heardAlert
  | heardAlertRaise
  | peakRequest
  | eventClosingTime
  | closingExpiry
  | raiseSent
  | deferenceExpiry
  | annunciatorSlot
  | fullResync
  | shedEntry
  | shedExit
  | computation
  | announcementPoint
  | holdLimit
  | heaterWindowEdge
  | filteredStateChange
  | disturbedTimerExpiry
  | fallingEdge
  | glitch
  | receiverHuntsAgain
  /-- The HATCH input changes to this level (true: open) (R194). -/
  | hatchLevelChange (hatchOpen : Bool)
  deriving DecidableEq, Repr

end Sys2Proof
end

