-- ==== Sys2Proof/Decode.lean ====
section
/-! DEFINITION. Reading a command from a word of the opcode table: no row of the table gives bits, so no word spells a
command. -/

namespace Sys2Proof

/-- The command a table word spells. spec/opcode_table.json gives its 69 rows no bits (98), so there is none. -/
def decodeTableWord (_nbits _w : Nat) : Option Instr := none

end Sys2Proof
end

