-- ==== Sys2Proof/Config.lean ====
section
/-! DEFINITION. The values the manual leaves open: they have no body, so no proof can see them. -/

namespace Sys2Proof

/-- A byte of a REPLY whose value the manual does not state, because the item it would report is absent
(R204 gives the field its place, no rule gives it a value).
`n` numbers the REPLY and `k` the byte within it (assumption log 30). -/
opaque Config.unstatedByte : Nat → Nat → Byte

/-- A byte that the profile memory has sent by the stop of an attempt which no command of the sender reports: the memory
is outside the part, and R189 gives its bytes no value.
`n` numbers the stop and `k` the byte within the attempt (assumption log 45). -/
opaque Config.unreportedByte : Nat → Nat → Byte

end Sys2Proof
end

