-- ==== Sys2Proof/Machine/State.lean ====
section
/-! DEFINITION. The state of the part, block by block, as plain data, and its value after a power-on reset.
Fields the model adds of its own say MODEL; every other field is state the manual names. -/

namespace Sys2Proof.Machine

/-- Why a command stops the part with a fault. The manual names no such stop (every line, sensor and record fault is
a counted event with stated effects), so there is none. -/
inductive Fault
  deriving DecidableEq, Repr

/-- Why a command has no meaning. -/
inductive Refusal
  /-- The command is not modelled yet (safe). No arm of `exec` answers it. -/
  | notModelled (mnemonic : String)
  deriving DecidableEq, Repr

/-! ### Time -/

/-- Station time, or a time stamp: station seconds and subsecond (00, Time; R1). The part's own subsecond lies in
0..9,999,999; a stamp carried in a frame may hold any 24-bit subsecond (R202). -/
structure Time where
  sec : BitVec 32
  sub : Nat
  deriving DecidableEq, Repr

/-- The grade of a station's time (R11). -/
inductive TimeClass
  | t0 | t1 | t2 | t3 | t4
  deriving DecidableEq, Repr

/-- The five clock states (R11). -/
inductive ClockState
  | unset | acquire | locked | holdover | peerSteered
  deriving DecidableEq, Repr

/-- The four power stages (R164). -/
inductive Stage
  | normal | conserve | reserve | shed
  deriving DecidableEq, Repr

/-! ### Frames -/

/-- The eight frame kinds (R32). -/
inductive FrameKind
  | alert | alertRaise | onset | coda | beacon | heat | reply | query
  deriving DecidableEq, Repr

/-- The seven kinds this station sends, one slot each (R63). -/
inductive TxKind
  | alert | alertRaise | onset | coda | beacon | heat | reply
  deriving DecidableEq, Repr

/-! ### Start-up and profile loader -/

/-- Where the part stands between resets (R188, R193). -/
inductive Phase
  | held | loading | running
  deriving DecidableEq, Repr

/-- The state of the profile read on the two-wire bus (R189). -/
inductive Bus
  /-- No read is in progress. -/
  | idle
  /-- Both lines are released, and the next attempt starts when the count of cycles left is 0. -/
  | waiting (left : Nat)
  /-- An attempt started this many cycles of OSC10M ago. -/
  | reading (cycles : Nat)
  /-- An attempt has failed: this many cycles of its bit period in progress and of its stop condition are left. -/
  | aborting (left : Nat)
  deriving DecidableEq, Repr

/-- The outcome of a load (R190). -/
inductive LoadOutcome
  | valid | badSum | noAnswer
  deriving DecidableEq, Repr

/-- The working values drawn from the profile (R191, R203). -/
structure Profile where
  peerSet : BitVec 14
  beaconPeriod : Nat
  depth : Nat
  latency : Nat
  channelZ : Bool
  channelN : Bool
  channelE : Bool
  sShort : Nat
  sLong : Nat
  rOn : Nat
  rOff : Nat
  floor : Nat
  holdoff : Nat
  maxDuration : Nat
  W : Nat
  V : Nat
  E : Nat
  D : Nat
  strong : Nat
  pattern1 : BitVec 12
  length1 : Nat
  pattern2 : BitVec 12
  length2 : Nat
  capacity : Nat
  vFull : Nat
  iTaper : Nat
  vShed : Nat
  chargeMin : Int
  chargeMax : Int
  warmSetpoint : Int
  enclosureSetpoint : Int
  gain : Nat
  rating0 : Nat
  rating1 : Nat
  bVault : Nat
  qMax : Nat
  deriving DecidableEq, Repr

/-- The built-in defaults (table of R191). -/
def Profile.builtIn : Profile where
  peerSet := 0x3FFF
  beaconPeriod := 8
  depth := 8
  latency := 0
  channelZ := true
  channelN := true
  channelE := true
  sShort := 3
  sLong := 10
  rOn := 64
  rOff := 24
  floor := 100
  holdoff := 2
  maxDuration := 300
  W := 20
  V := 6
  E := 90
  D := 200
  strong := 1000000
  pattern1 := 0b000000000101
  length1 := 8
  pattern2 := 0b010101010101
  length2 := 12
  capacity := 50000
  vFull := 14400
  iTaper := 500
  vShed := 11800
  chargeMin := 0
  chargeMax := 450
  warmSetpoint := 50
  enclosureSetpoint := 100
  gain := 4
  rating0 := 160
  rating1 := 120
  bVault := 300
  qMax := 120

/-- The start-up and profile loader, with the hatch filter (chapter 11, state list). -/
structure Loader where
  phase : Phase
  /-- The raw station-number strap (R188). -/
  rawStrap : BitVec 4
  /-- The station number in use (R188). -/
  station : Station
  /-- The trunk rate: true for 115,200 bit/s (R26). -/
  fast : Bool
  bus : Bus
  /-- Attempts started in the read in progress, 0..3 (R189). -/
  attempts : Nat
  /-- Whether some attempt of this read reached its stop (R190). -/
  anyStop : Bool
  image : Vector Byte 48
  profile : Profile
  outcome : LoadOutcome
  defaultFlag : Bool
  attemptsUsed : Nat
  clamped : Nat
  /-- The hatch filter's state: true for OPEN (R194). -/
  filteredOpen : Bool
  /-- The stability count, in cycles (R194). -/
  stability : Nat
  /-- The disturbed timer, 0..120 s (R195). -/
  disturbedTimer : Nat
  /-- The disturbed flag that onsets and beacons sample (R195; assumption log 16). -/
  disturbed : Bool
  openings : Nat
  deriving DecidableEq, Repr

/-! ### Station clock -/

/-- An edge of PPS (R5). -/
structure Edge where
  /-- The subsecond at which the edge was seen. -/
  c : Nat
  /-- The phase error. -/
  e : Int
  /-- The station second assigned to the edge. -/
  assigned : BitVec 32
  /-- The station time of the capture, moved by steps (R22). -/
  captured : Time
  /-- More than 1,500 ms after the edge before it, or the first since reset release. -/
  gap : Bool
  deriving DecidableEq, Repr

/-- MODEL: an edge taken with its record's seconds, kept while a limit step works from it (assumption log 4). -/
structure Taken where
  edge : Edge
  seconds : BitVec 32
  deriving DecidableEq, Repr

/-- The interval record (R14, R20). -/
inductive Interval
  | none
  | reference (eStart : Int) (count : Nat)
  | peer (eStart : Int) (start : Time)
  deriving DecidableEq, Repr

/-- The causes of a step (R23). -/
inductive StepCause
  | acquire | reference | seconds | peerEntry | peer
  deriving DecidableEq, Repr

/-- An entry of the step log (R23). -/
structure StepEntry where
  time : Time
  size : Int
  cause : StepCause
  deriving DecidableEq, Repr

/-- The six clock counters, in the order of R24. -/
structure ClockCounters where
  outliers : Nat
  badRecords : Nat
  missingRecords : Nat
  corrections : Nat
  steps : Nat
  losses : Nat
  deriving DecidableEq, Repr

/-- The station clock (chapter 1, state list). -/
structure Clock where
  time : Time
  /-- The whole-cycle adjustment of the second in progress (R2). -/
  d : Int
  /-- MODEL: the extra cycle of a positive adjustment is still to be counted (R2; assumption log 10). -/
  hold : Bool
  /-- MODEL: subsecond counts made by the last cycle, 0 after a step: which schedule points have just fallen
  (R4; assumption log 9). -/
  advanced : Nat
  state : ClockState
  /-- The frequency trim, in sixteenths of a cycle per second (R3). -/
  F : Int
  /-- The phase slew, in cycles per second (R3). -/
  P : Int
  interval : Interval
  restartPending : Bool
  steeringClass : Option TimeClass
  acquirePending : Bool
  /-- The holdover age, saturating at 65,535 (R16). -/
  age : Nat
  /-- MODEL: class T3 has been taken in this HOLDOVER (R16; assumption log 16). -/
  aged : Bool
  returnCount : Nat
  /-- The consecutive-outlier count (R8). -/
  outliers : Nat
  /-- The consecutive-missing count (R7). -/
  missing : Nat
  awaiting : Option Edge
  /-- MODEL: the taken edge a limit step works from (assumption log 4). -/
  taken : Option Taken
  lastEdge : Option Time
  /-- The start of the 3 s reference-loss period in force, none after its loss (R9). -/
  lossStart : Option Time
  /-- The bytes of the time record in assembly; empty when none is being assembled (R6). -/
  refBytes : List Byte
  refLast : Option Time
  /-- The latest second whose second boundary event was issued (R22). -/
  latestBoundary : Option (BitVec 32)
  epoch : BitVec 16
  log : List StepEntry
  counters : ClockCounters
  deriving DecidableEq, Repr

/-! ### Trunk controller -/

/-- The line state (R30). -/
inductive LineState
  | busy | idle | fault
  deriving DecidableEq, Repr

/-- The receiver's character state (R28, R29). -/
inductive Receiver
  | off
  | hunting
  /-- In a character: the number of its latest sample, and the station time of its sample 1. -/
  | inChar (sample : Nat) (capture : Time)
  | waitRecessive
  deriving DecidableEq, Repr

/-- A frame being assembled (R33, R34, R36). -/
structure Assembly where
  kind : FrameKind
  sender : BitVec 4
  body : List Byte
  check : Byte
  capture : Time
  deriving DecidableEq, Repr

/-- The frame assembler (R33). -/
inductive Assembler
  | noFrame
  | assembling (frame : Assembly)
  | discarding
  deriving DecidableEq, Repr

/-- A frame handed to the transmitter (R37). A BEACON's time and class fields are open in the body (R42). -/
structure TxFrame where
  kind : TxKind
  body : List Byte
  deriving DecidableEq, Repr

/-- The attempt in progress (R37, R42). -/
structure TxRun where
  /-- Samples sent since the first driven sample (assumption log 20). -/
  position : Nat
  /-- Own characters the receiver has taken. -/
  chars : Nat
  capture : Time
  cls : TimeClass
  /-- The time field of a BEACON as it will be, or was, sent. -/
  field : Time
  deriving DecidableEq, Repr

/-- The transmitter (R37). -/
inductive Transmitter
  | idle
  /-- Handed over; whether a dominant sample has been seen since, and whether a sample boundary has passed. -/
  | handed (frame : TxFrame) (edgeSeen : Bool) (boundary : Bool)
  | sending (frame : TxFrame) (run : TxRun)
  deriving DecidableEq, Repr

/-- One link counter (R43). -/
structure LinkCounter where
  running : Nat
  lastSecond : Nat
  total : Nat
  deriving DecidableEq, Repr

/-- The nine link counters, in the order of R43. -/
structure LinkCounters where
  framingErrors : LinkCounter
  checkFailures : LinkCounter
  truncated : LinkCounter
  stray : LinkCounter
  losses : LinkCounter
  driveFaults : LinkCounter
  overruns : LinkCounter
  conflicts : LinkCounter
  faultSeconds : LinkCounter
  deriving DecidableEq, Repr

/-- The trunk controller (chapter 2, state list). -/
structure Trunk where
  /-- The sample clock's accumulator (R26). -/
  acc : Nat
  line : LineState
  idleTimer : Nat
  /-- The dominant-run count (R31). -/
  run : Nat
  /-- The level of the latest sample, as the commands report it (assumption log 17). -/
  dominant : Bool
  faultSeen : Bool
  receiver : Receiver
  /-- MODEL: samples of the last character's stop bit from the latest sample on, that one among them; 0 where the latest
  sample lies outside it. The idle timer stands for them (R30; log 18). -/
  tail : Nat
  assembler : Assembler
  /-- The assembler's own flag (R37). -/
  own : Bool
  tx : Transmitter
  /-- MODEL: a drive fault has been read in the present sample, and the line is released from the next (R40). -/
  releasing : Bool
  counters : LinkCounters
  deriving DecidableEq, Repr

/-! ### Peer table and inbound queue -/

/-- An entry of the inbound queue (R45). -/
structure InEntry where
  kind : FrameKind
  sender : BitVec 4
  body : List Byte
  capture : Time
  deriving DecidableEq, Repr

/-- A row's time part (R51). -/
structure TimePart where
  cls : TimeClass
  disturbed : Bool
  defaultProfile : Bool
  conflict : Bool
  stage : Stage
  /-- The clock-state code 0..7 as received. -/
  clockCode : Nat
  soc : Nat
  offset : Int
  stale : Bool
  age : Nat
  deriving DecidableEq, Repr

/-- Why a trigger ended; `absent` until it has (R109 to R111, R200). -/
inductive EndReason
  | absent | normal | forced | halted
  deriving DecidableEq, Repr

/-- The summary of a trigger (R112). -/
structure Summary where
  peak : Nat
  peakOffset : Nat
  duration : Nat
  reason : EndReason
  deriving DecidableEq, Repr

/-- A row's trigger part (R55). -/
structure TriggerPart where
  onset : Time
  cls : TimeClass
  disturbed : Bool
  inexact : Bool
  ratio : Nat
  consumed : Bool
  summary : Option Summary
  /-- MODEL: a boundary event found the onset more than E seconds behind (R61; assumption log 25). -/
  lapsed : Bool
  deriving DecidableEq, Repr

/-- A row's heat part (R58). -/
structure HeatPart where
  demand : Nat
  urgent : Nat
  age : Nat
  deriving DecidableEq, Repr

/-- A row of the peer table (R50). -/
structure Row where
  time : Option TimePart
  trigger : Option TriggerPart
  heat : Option HeatPart
  deriving DecidableEq, Repr

/-- The four counters of R62. -/
structure PeerCounters where
  outside : Nat
  late : Nat
  repeated : Nat
  unmatchedCoda : Nat
  deriving DecidableEq, Repr

/-- The peer table and the inbound queue (chapter 3, state list). -/
structure Peers where
  /-- Oldest first (R45). -/
  queue : List InEntry
  /-- The entry in hand; the table is busy while there is one (R46). -/
  hand : Option InEntry
  rows : Vector Row 14
  conflictTimer : Nat
  /-- The station-conflict flag (R49; assumption log 16). -/
  conflict : Bool
  counters : PeerCounters
  deriving DecidableEq, Repr

/-! ### Outbound scheduler -/

/-- A request's reference (R63, R74, R106, R145, R178, R197). -/
inductive Ref
  | serial (n : BitVec 8)
  | stamp (t : Time)
  | demand (n : Nat)
  | query (topic : Nat) (index : Byte)
  deriving DecidableEq, Repr

/-- A request held by the scheduler (R63). -/
structure Request where
  body : List Byte
  ref : Ref
  time : Time
  deadline : Option Time
  attempts : Nat
  capture : Option Time
  /-- The withdrawal mark (R70). -/
  mark : Bool
  deriving DecidableEq, Repr

/-- A slot, with its waiting place while in flight (R63). -/
inductive Slot
  | empty
  | ready (request : Request)
  | inFlight (request : Request) (waiting : Option Request)
  deriving DecidableEq, Repr

/-- The seven slots (R63). -/
structure Slots where
  alert : Slot
  alertRaise : Slot
  onset : Slot
  coda : Slot
  beacon : Slot
  heat : Slot
  reply : Slot
  deriving DecidableEq, Repr

/-- How a request left the scheduler (R71). -/
inductive SendOutcome
  | sent | superseded | expired | withdrawn
  deriving DecidableEq, Repr

/-- A record of the outbound history (R76). -/
structure HistoryRecord where
  kind : TxKind
  time : Time
  capture : Option Time
  attempts : Nat
  outcome : SendOutcome
  deriving DecidableEq, Repr

/-- The outbound scheduler (chapter 4, state list). -/
structure Sched where
  slots : Slots
  /-- The last candidate point taken (R75). -/
  lastCandidate : Option Time
  /-- Newest first (R76). -/
  history : List HistoryRecord
  deriving DecidableEq, Repr

/-! ### Sample intake -/

/-- The three channel values of a set (R79). -/
structure Sample where
  z : Int
  n : Int
  e : Int
  deriving DecidableEq, Repr

/-- An entry of the elastic store (R82). -/
structure SetEntry where
  values : Sample
  stamp : Time
  epoch : BitVec 16
  deriving DecidableEq, Repr

/-- The last delivered set (R84). -/
structure Delivered where
  values : Sample
  stamp : Time
  deriving DecidableEq, Repr

/-- The intake's states (R83 to R86). -/
inductive IntakeState
  | priming | running | stalled
  deriving DecidableEq, Repr

/-- The four counters of R92. -/
structure IntakeCounters where
  incomplete : Nat
  slipDrops : Nat
  slipRepeats : Nat
  stalls : Nat
  deriving DecidableEq, Repr

/-- Sample intake (chapter 5, state list). -/
structure Intake where
  /-- The open port frame's bit count, none while no port frame is open (R79; assumption log 27). -/
  frame : Option Nat
  /-- Oldest first (R82). -/
  store : List SetEntry
  state : IntakeState
  last : Option Delivered
  /-- The consecutive-empty count (R85). -/
  empty : Nat
  latestTick : Option Time
  counters : IntakeCounters
  deriving DecidableEq, Repr

/-! ### Trigger detector -/

/-- The detector's states (R101 to R113). -/
inductive DetectorState
  | halted | warmup | armed | triggered | holdoff
  deriving DecidableEq, Repr

/-- The trigger record (R105). -/
structure TriggerRecord where
  onset : Time
  cls : TimeClass
  disturbed : Bool
  inexact : Bool
  ratio : Nat
  peak : Nat
  peakOffset : Nat
  duration : Nat
  strongReported : Bool
  reason : EndReason
  deriving DecidableEq, Repr

/-- The seven counters of R114, in its order. -/
structure DetectorCounters where
  onsets : Nat
  forcedEnds : Nat
  haltedEnds : Nat
  strongReports : Nat
  onsetNotSent : Nat
  codaNotSent : Nat
  warmups : Nat
  deriving DecidableEq, Repr

/-- The trigger detector (chapter 6, state list). -/
structure Detector where
  state : DetectorState
  dcZ : Int
  dcN : Int
  dcE : Int
  /-- The short-term average, scaled by 256 (R97). -/
  S : Nat
  /-- The long-term average, scaled by 256 (R98). -/
  L : Nat
  warmup : Nat
  holdoff : Nat
  ratio : Nat
  record : Option TriggerRecord
  counters : DetectorCounters
  deriving DecidableEq, Repr

/-! ### Coincidence unit -/

/-- The alert and raise outcomes (R142). -/
inductive AlertOutcome
  | none | deferring | pending | sent | yielded | lapsed
  deriving DecidableEq, Repr

/-- An event record (R128). -/
structure Event where
  serial : BitVec 8
  origin : Time
  originStation : Station
  level : Nat
  weight : Nat
  /-- The contributor list, as a station set. -/
  contributors : BitVec 14
  /-- The member onsets: at most one for each station. -/
  members : Vector (Option Time) 14
  adopted : Bool
  isOpen : Bool
  declaredAt : Time
  alertOutcome : AlertOutcome
  raiseOutcome : AlertOutcome
  peak : Option Nat
  deriving DecidableEq, Repr

/-- Which block made a request of the coincidence unit (R121). -/
inductive Source
  | peerTable | detector
  deriving DecidableEq, Repr

/-- A waiting request of the coincidence unit (R121). -/
inductive CoRequest
  | vote (source : Source) (station : Station) (onset : Time)
  | heardAlert (sender : BitVec 4) (body : List Byte)
  | heardRaise (sender : BitVec 4) (body : List Byte)
  | peak (source : Source) (station : Station) (onset : Time) (peak : Nat)
  | closing (serial : BitVec 8)
  | raiseSent (serial : BitVec 8)
  deriving DecidableEq, Repr

/-- The seven counters of R140, in its order. -/
structure CoCounters where
  declarations : Nat
  adoptions : Nat
  joins : Nat
  folds : Nat
  dropped : Nat
  malformed : Nat
  unmatchedRaises : Nat
  deriving DecidableEq, Repr

/-- The coincidence unit (chapter 7, state list). -/
structure Coincidence where
  /-- Newest first (R129). -/
  events : List Event
  serial : BitVec 8
  /-- In the order made (R121). -/
  waiting : List CoRequest
  counters : CoCounters
  deriving DecidableEq, Repr

/-! ### Alert unit -/

/-- The deference timer, when set (R143). -/
structure Deference where
  serial : BitVec 8
  expiry : Time
  deriving DecidableEq, Repr

/-- The kind of a tracking entry (R145, R151). -/
inductive AlertKind
  | alert | raise
  deriving DecidableEq, Repr

/-- The withdrawal cause of a tracking entry (R147, R149). -/
inductive Cause
  | none | yield | lapse
  deriving DecidableEq, Repr

/-- A tracking entry (R145). -/
structure Tracking where
  kind : AlertKind
  serial : BitVec 8
  cause : Cause
  deriving DecidableEq, Repr

/-- The annunciator's states (R154). -/
inductive AnnState
  | off | waiting | playing
  deriving DecidableEq, Repr

/-- The seven counters of R157, in its order. -/
structure AlertCounters where
  alertsSent : Nat
  alertsYielded : Nat
  alertsLapsed : Nat
  raisesSent : Nat
  raisesYielded : Nat
  raisesLapsed : Nat
  declinedStrong : Nat
  deriving DecidableEq, Repr

/-- The alert unit (chapter 8, state list). -/
structure Alerts where
  deference : Option Deference
  tracking : List Tracking
  annState : AnnState
  slot : Nat
  /-- The level taken at the start of the pattern being played, 0 while none is (R154, R158). -/
  level : Nat
  /-- MODEL: the schedule point of the latest slot move (assumption log 9). -/
  slotPoint : Option Time
  /-- The ANN output: true while driven (R153). -/
  ann : Bool
  counters : AlertCounters
  deriving DecidableEq, Repr

/-! ### Battery monitor -/

/-- The five counters of R172, in its order. -/
structure BatteryCounters where
  batteryFaults : Nat
  enclosureFaults : Nat
  fullResyncs : Nat
  shedEntries : Nat
  stageChanges : Nat
  deriving DecidableEq, Repr

/-- The battery monitor (chapter 9, state list). A reading is none while its input has no reading since reset. -/
structure Battery where
  voltage : Option Int
  current : Option Int
  batteryTemp : Option Int
  enclosureTemp : Option Int
  batteryFault : Bool
  enclosureFault : Bool
  /-- The charge, in mA·s (R162). -/
  Q : Nat
  /-- MODEL: the end of loading keeps Q (after a pin reset) and does not set it to half (R173). -/
  keepQ : Bool
  learned : Bool
  full : Nat
  low : Nat
  recovery : Nat
  stage : Stage
  /-- MODEL: the stage tests of the reading in progress are still to be made (R159; assumption log 26). -/
  testsDue : Bool
  /-- CHGEN: true while asserted (R168). -/
  chgen : Bool
  /-- LOADOFF: true while asserted (R167). -/
  loadoff : Bool
  counters : BatteryCounters
  deriving DecidableEq, Repr

/-! ### Heater controller -/

/-- The quiet-hold state, with the start time of a hold (R182). -/
inductive Hold
  | idle
  | holding (start : Time)
  | spent
  deriving DecidableEq, Repr

/-- The four counters of R187, in its order. -/
structure HeaterCounters where
  sent : Nat
  notSent : Nat
  holdsStarted : Nat
  holdsLimited : Nat
  deriving DecidableEq, Repr

/-- The heater controller (chapter 10, state list). -/
structure Heater where
  h0 : Nat
  h1 : Nat
  /-- H0 is urgent (R175). -/
  h0Urgent : Bool
  demand0 : Nat
  demand1 : Nat
  /-- The own demand and its urgent part (R176). -/
  demand : Nat
  urgent : Nat
  announced : Option Nat
  lastRequest : Option Time
  U : Nat
  Nh : Nat
  budget : Nat
  G : Nat
  grant0 : Nat
  grant1 : Nat
  steps0 : Nat
  steps1 : Nat
  hold : Hold
  triggered : Bool
  eventOpen : Bool
  lastPoint : Option Time
  /-- MODEL: the computation that a second boundary event has brought is still to be made (R174; assumption log 9). -/
  computationDue : Bool
  /-- HEAT0 and HEAT1: true while driven (R184). -/
  out0 : Bool
  out1 : Bool
  counters : HeaterCounters
  deriving DecidableEq, Repr

/-! ### Service responder -/

/-- The five counters of R199, in its order. -/
structure ServiceCounters where
  taken : Nat
  refused : Nat
  busyDrops : Nat
  sent : Nat
  expired : Nat
  deriving DecidableEq, Repr

/-- The service responder: PENDING while `pendingReply` holds the topic and index byte of its REPLY, else IDLE
(R196). -/
structure Service where
  pendingReply : Option (Nat × Byte)
  counters : ServiceCounters
  deriving DecidableEq, Repr

/-! ### The part -/

/-- The input pins whose level the part reads at other moments than the command that changes them. -/
structure Pins where
  /-- HATCH: true for open (R194). -/
  hatch : Bool
  /-- AIN0 to AIN3 as the converter shows them (R160; assumption log 8). -/
  analog : Readings
  deriving DecidableEq, Repr

/-- The whole state of the part and its queue of commands. -/
@[ext]
structure State where
  pins : Pins
  loader : Loader
  clock : Clock
  trunk : Trunk
  peers : Peers
  sched : Sched
  intake : Intake
  detector : Detector
  co : Coincidence
  alerts : Alerts
  battery : Battery
  heater : Heater
  service : Service
  /-- MODEL: numbers the REPLYs built and the stops of the profile read, for the free bytes of Config
  (assumption logs 30, 45). -/
  free : Nat
  /-- The commands waiting, first in, first out (assumption log 1). -/
  pending : List Instr
  deriving DecidableEq, Repr

/-! ### Reset values -/

/-- R188 to R195, R199. The straps, profile flags and working values are formed afresh at release and by the read;
until then they hold what assumption log 7 names. -/
def Loader.reset : Loader where
  phase := .held
  rawStrap := 15
  station := 13
  fast := true
  bus := .idle
  attempts := 0
  anyStop := false
  image := Vector.replicate 48 0
  profile := Profile.builtIn
  outcome := .valid
  defaultFlag := false
  attemptsUsed := 0
  clamped := 0
  filteredOpen := false
  stability := 0
  disturbedTimer := 0
  disturbed := false
  openings := 0

/-- R25. DESIGN CHOICE (assumption log 7): R25 states no value for `latestBoundary`, `refLast` and `restartPending`; the
first two are absent and the third is clear. -/
def Clock.reset : Clock where
  time := ⟨0, 0⟩
  d := 0
  hold := false
  advanced := 0
  state := .unset
  F := 0
  P := 0
  interval := .none
  restartPending := false
  steeringClass := none
  acquirePending := false
  age := 0
  aged := false
  returnCount := 0
  outliers := 0
  missing := 0
  awaiting := none
  taken := none
  lastEdge := none
  lossStart := none
  refBytes := []
  refLast := none
  latestBoundary := none
  epoch := 0
  log := []
  counters := ⟨0, 0, 0, 0, 0, 0⟩

/-- A cleared link counter (R44). -/
def LinkCounter.zero : LinkCounter := ⟨0, 0, 0⟩

/-- Section 2.7 and R44. DESIGN CHOICE (assumption log 7): the assembler's own flag, for which they give no value, is
clear. -/
def Trunk.reset : Trunk where
  acc := 0
  line := .busy
  idleTimer := 0
  run := 0
  dominant := false
  faultSeen := false
  receiver := .off
  tail := 0
  assembler := .noFrame
  own := false
  tx := .idle
  releasing := false
  counters := ⟨.zero, .zero, .zero, .zero, .zero, .zero, .zero, .zero, .zero⟩

/-- A row with every part absent (R50). -/
def Row.absent : Row := ⟨none, none, none⟩

/-- R62. -/
def Peers.reset : Peers where
  queue := []
  hand := none
  rows := Vector.replicate 14 Row.absent
  conflictTimer := 0
  conflict := false
  counters := ⟨0, 0, 0, 0⟩

/-- R78. -/
def Sched.reset : Sched where
  slots := ⟨.empty, .empty, .empty, .empty, .empty, .empty, .empty⟩
  lastCandidate := none
  history := []

/-- R93. -/
def Intake.reset : Intake where
  frame := none
  store := []
  state := .priming
  last := none
  empty := 0
  latestTick := none
  counters := ⟨0, 0, 0, 0⟩

/-- R118. -/
def Detector.reset : Detector where
  state := .halted
  dcZ := 0
  dcN := 0
  dcE := 0
  S := 0
  L := 0
  warmup := 0
  holdoff := 0
  ratio := 0
  record := none
  counters := ⟨0, 0, 0, 0, 0, 0, 0⟩

/-- R141. -/
def Coincidence.reset : Coincidence where
  events := []
  serial := 0
  waiting := []
  counters := ⟨0, 0, 0, 0, 0, 0, 0⟩

/-- R158. -/
def Alerts.reset : Alerts where
  deference := none
  tracking := []
  annState := .off
  slot := 0
  level := 0
  slotPoint := none
  ann := false
  counters := ⟨0, 0, 0, 0, 0, 0, 0⟩

/-- R173, R167. Q and the stage are fixed at the end of loading; until then assumption log 7 names them. -/
def Battery.reset : Battery where
  voltage := none
  current := none
  batteryTemp := none
  enclosureTemp := none
  batteryFault := false
  enclosureFault := false
  Q := 0
  keepQ := false
  learned := false
  full := 0
  low := 0
  recovery := 0
  stage := .normal
  testsDue := false
  chgen := false
  loadoff := true
  counters := ⟨0, 0, 0, 0, 0⟩

/-- R187. -/
def Heater.reset : Heater where
  h0 := 0
  h1 := 0
  h0Urgent := false
  demand0 := 0
  demand1 := 0
  demand := 0
  urgent := 0
  announced := none
  lastRequest := none
  U := 0
  Nh := 0
  budget := 0
  G := 0
  grant0 := 0
  grant1 := 0
  steps0 := 0
  steps1 := 0
  hold := .idle
  triggered := false
  eventOpen := false
  lastPoint := none
  computationDue := false
  out0 := false
  out1 := false
  counters := ⟨0, 0, 0, 0⟩

/-- R199. -/
def Service.reset : Service where
  pendingReply := none
  counters := ⟨0, 0, 0, 0, 0⟩

/-- The inputs as assumption logs 7 and 8 name them. -/
def Pins.reset : Pins where
  hatch := true
  analog := ⟨0, 0, 0, 0⟩

/-- The part in a power-on reset, before its release (R25, R44, R62, R78, R93, R118, R141, R158, R173, R187, R199;
assumption log 6). -/
def State.reset : State where
  pins := Pins.reset
  loader := Loader.reset
  clock := Clock.reset
  trunk := Trunk.reset
  peers := Peers.reset
  sched := Sched.reset
  intake := Intake.reset
  detector := Detector.reset
  co := Coincidence.reset
  alerts := Alerts.reset
  battery := Battery.reset
  heater := Heater.reset
  service := Service.reset
  free := 0
  pending := []

end Sys2Proof.Machine
end

