-- ==== Sys2Proof/Machine/Ops.lean ====
section
/-! DEFINITION. The shared operations of every block: station-time arithmetic, saturating counters, byte order, and the
named reads and writes of the peer table, the slots and the event list. -/

namespace Sys2Proof.Machine

/-! ### Station time (R1, R22, R52) -/

/-- The number of cycles after which station time wraps (R1). -/
def wrapCycles : Nat := 4294967296 * secondCycles

/-- A stamp as cycles since 0.0. -/
def Time.cycles (t : Time) : Nat := secondCycles * t.sec.toNat + t.sub

/-- The station time that lies this many cycles after 0.0, wrapping (R1, R22). -/
def Time.ofCycles (n : Nat) : Time := ⟨BitVec.ofNat 32 (n / secondCycles), n % secondCycles⟩

/-- A stamp moved by a signed number of cycles, carrying into station seconds and wrapping (R22). -/
def Time.add (t : Time) (s : Int) : Time := Time.ofCycles (((t.cycles : Int) + s) % (wrapCycles : Int)).toNat

/-- The exact difference of two stamps in cycles; the seconds difference is read modulo 2^32 as a signed value
(R52, R119). -/
def Time.diff (a b : Time) : Int := secondCycles * (a.sec - b.sec).toInt + ((a.sub : Int) - (b.sub : Int))

/-- Station time `now` has reached the stamp `t`. -/
def Time.reached (now t : Time) : Bool := decide (0 ≤ now.diff t)

/-- `a` lies later than `b`. -/
def Time.later (a b : Time) : Bool := decide (0 < a.diff b)

/-- Second `a` lies later than second `b` (assumption log 11). -/
def secLater (a b : BitVec 32) : Bool := decide (0 < (a - b).toInt)

/-- A point later than the last one taken, or the first one. -/
def laterThanLast (p : Time) : Option Time → Bool
  | none => true
  | some q => p.later q

/-- Holds a value in the range `lo..hi` (00, Units and arithmetic). -/
def clampInt (lo hi x : Int) : Int := max lo (min x hi)

/-- A counter 0..65,535 that saturates, increased by one. -/
def bump16 (n : Nat) : Nat := min (n + 1) 65535

/-! ### Byte order (R200) -/

/-- `n` bytes of a number, least significant byte first. -/
def leBytes : Nat → Nat → List Byte
  | 0, _ => []
  | n + 1, x => BitVec.ofNat 8 x :: leBytes n (x / 256)

/-- `n` bytes of a signed number in two's complement, least significant byte first. -/
def leInt (n : Nat) (x : Int) : List Byte := leBytes n ((x % (256 ^ n : Int)).toNat)

/-- The number that bytes spell, least significant byte first. -/
def ofLe : List Byte → Nat
  | [] => 0
  | b :: bs => b.toNat + 256 * ofLe bs

/-- The `n` bytes at an offset, as a number. -/
def field (bytes : List Byte) (offset n : Nat) : Nat := ofLe ((bytes.drop offset).take n)

/-- Bits `lo .. lo+len-1` of a number. -/
def bitsOf (x lo len : Nat) : Nat := x / 2 ^ lo % 2 ^ len

/-- One bit as a number. -/
def bit (b : Bool) : Nat := if b then 1 else 0

/-- A time stamp's seven bytes (R200). -/
def stampBytes (t : Time) : List Byte := leBytes 4 t.sec.toNat ++ leBytes 3 t.sub

/-- The time stamp at an offset. -/
def stampAt (bytes : List Byte) (offset : Nat) : Time := ⟨BitVec.ofNat 32 (field bytes offset 4), field bytes (offset + 4) 3⟩

/-! ### Named reads and writes -/

/-- The fourteen station numbers, ascending. -/
def stations : List Station := List.finRange 14

/-- A peer row (R50). -/
def Peers.row (p : Peers) (n : Station) : Row := p.rows[n.val]

/-- Writes a peer row. -/
def Peers.setRow (p : Peers) (n : Station) (r : Row) : Peers := { p with rows := p.rows.set n.val r n.isLt }

/-- Changes every row. -/
def Peers.mapRows (p : Peers) (f : Row → Row) : Peers := { p with rows := p.rows.map f }

/-- The slot of a kind (R63). -/
def Slots.get (x : Slots) : TxKind → Slot
  | .alert => x.alert
  | .alertRaise => x.alertRaise
  | .onset => x.onset
  | .coda => x.coda
  | .beacon => x.beacon
  | .heat => x.heat
  | .reply => x.reply

/-- Writes the slot of a kind. -/
def Slots.set (x : Slots) (k : TxKind) (v : Slot) : Slots :=
  match k with
  | .alert => { x with alert := v }
  | .alertRaise => { x with alertRaise := v }
  | .onset => { x with onset := v }
  | .coda => { x with coda := v }
  | .beacon => { x with beacon := v }
  | .heat => { x with heat := v }
  | .reply => { x with reply := v }

/-- Changes every slot. -/
def Slots.map (x : Slots) (f : Slot → Slot) : Slots :=
  ⟨f x.alert, f x.alertRaise, f x.onset, f x.coda, f x.beacon, f x.heat, f x.reply⟩

/-- Writes the slot of a kind into the state. -/
def State.setSlot (s : State) (k : TxKind) (v : Slot) : State :=
  { s with sched := { s.sched with slots := s.sched.slots.set k v } }

/-- The record with a serial, if the list holds one (R139). -/
def State.event (s : State) (serial : BitVec 8) : Option Event := s.co.events.find? (fun e => e.serial == serial)

/-- The open record: only the newest can be open (R129). -/
def State.openEvent (s : State) : Option Event := s.co.events.find? (fun e => e.isOpen)

/-- Changes the record with a serial in place; nothing changes when the list holds none (R129, R139). -/
def State.updateEvent (s : State) (serial : BitVec 8) (f : Event → Event) : State :=
  { s with co := { s.co with events := s.co.events.map (fun e => if e.serial == serial then f e else e) } }

/-- Adds a request of the coincidence unit at the end of those waiting (R121). -/
def State.askCo (s : State) (r : CoRequest) : State := { s with co := { s.co with waiting := s.co.waiting ++ [r] } }

/-- Increases a link counter's running count and its total, which saturates (R43). -/
def LinkCounter.increase (c : LinkCounter) : LinkCounter :=
  { c with running := c.running + 1, total := min (c.total + 1) 65535 }

/-- Latches a link counter at a second boundary event (R44, steps 2 and 3). -/
def LinkCounter.latch (c : LinkCounter) : LinkCounter := { c with running := 0, lastSecond := min c.running 255 }

/-- Changes the link counters. -/
def State.mapLink (s : State) (f : LinkCounters → LinkCounters) : State :=
  { s with trunk := { s.trunk with counters := f s.trunk.counters } }

/-- Changes the clock. -/
def State.mapClock (s : State) (f : Clock → Clock) : State := { s with clock := f s.clock }

/-- The present station time. -/
abbrev State.now (s : State) : Time := s.clock.time

/-- The working values of the profile. -/
abbrev State.profile (s : State) : Profile := s.loader.profile

/-- This station's number. -/
abbrev State.own (s : State) : Station := s.loader.station

/-- Loading has ended and no reset is held. -/
def State.isRunning (s : State) : Bool := decide (s.loader.phase = .running)

/-- No reset is held. -/
def State.isReleased (s : State) : Bool := decide (s.loader.phase ≠ .held)

end Sys2Proof.Machine
end

