-- ==== Sys2Proof/Machine/Flags.lean ====
section
/-! DEFINITION. The flags and conditions that the blocks read from one another, each formed from the state as its rule
says. -/

namespace Sys2Proof.Machine

/-! ### Station clock -/

/-- The time class of a clock (R11). -/
def Clock.timeClass (c : Clock) : TimeClass :=
  match c.state with
  | .locked => .t0
  | .peerSteered => .t2
  | .holdover => if c.aged then .t3 else .t1
  | .unset => .t4
  | .acquire => .t4

/-- The time class this station supplies. -/
def State.timeClass (s : State) : TimeClass := s.clock.timeClass

/-- The adjustment of a second: floor(F/16) + dither + P (R2). -/
def adjustment (sec : BitVec 32) (F P : Int) : Int :=
  F / 16 + (if ((sec.toNat : Int) % 16) < F % 16 then 1 else 0) + P

/-- Fixes the adjustment of the present second again (R2). -/
def Clock.refix (c : Clock) : Clock := { c with d := adjustment c.time.sec c.F c.P }

/-- The schedule point at a subsecond value has fallen in the cycle just counted (R4): counting has reached or passed it.
The answer is the point's station time. -/
def State.fell (s : State) (sub : Nat) : Option Time :=
  if sub ≤ s.now.sub ∧ s.now.sub < sub + s.clock.advanced then some ⟨s.now.sec, sub⟩ else none

/-- The tick point that has fallen in the cycle just counted (R88). -/
def State.tickPoint (s : State) : Option Time :=
  if s.now.sub % tickCycles < s.clock.advanced then some ⟨s.now.sec, s.now.sub - s.now.sub % tickCycles⟩ else none

/-- The second boundary that has fallen in the cycle just counted, if its event may be issued: events are suppressed
until station time passes the latest boundary for which one was issued (R4, R22). -/
def State.boundary (s : State) : Option (BitVec 32) :=
  match s.fell 0 with
  | none => none
  | some p =>
    match s.clock.latestBoundary with
    | none => some p.sec
    | some b => if secLater p.sec b then some p.sec else none

/-- Whether a peer class qualifies under a steering class (table of R18). -/
def qualifies (steering peer : TimeClass) : Bool :=
  match steering with
  | .t1 => decide (peer = .t0)
  | .t3 => decide (peer = .t0) || decide (peer = .t1)
  | .t4 => decide (peer = .t0) || decide (peer = .t1)
  | .t0 => false
  | .t2 => false

/-- The steering class: the one recorded at entry in PEER-STEERED, this station's own class elsewhere (R18). -/
def State.steering (s : State) : TimeClass :=
  match s.clock.state with
  | .peerSteered => s.clock.steeringClass.getD .t2
  | _ => s.timeClass

/-- The time parts of the peer candidates, by station number; the own row has no time part (R18). -/
def State.candidates (s : State) : List TimePart :=
  (stations.filter (fun n => n ≠ s.own)).filterMap (fun n =>
    match (s.peers.row n).time with
    | some p => if qualifies s.steering p.cls then some p else none
    | none => none)

/-- The offsets of the sources: candidates whose offset is not stale (R18). -/
def State.sourceOffsets (s : State) : List Int :=
  (s.candidates.filter (fun p => !p.stale)).map (fun p => p.offset)

/-- Puts an offset into an ascending list. -/
def insertOffset (x : Int) : List Int → List Int
  | [] => [x]
  | y :: ys => if x ≤ y then x :: y :: ys else y :: insertOffset x ys

/-- Ascending order. -/
def sortOffsets : List Int → List Int
  | [] => []
  | x :: xs => insertOffset x (sortOffsets xs)

/-- The median of R19: the element at index floor((n - 1)/2) of the offsets in ascending order. -/
def median (xs : List Int) : Int := (sortOffsets xs).getD ((xs.length - 1) / 2) 0

/-! ### Start-up, power and intake -/

/-- The station is disturbed (R195). -/
def State.isDisturbed (s : State) : Bool := s.loader.disturbed

/-- The sample port is open (R81). -/
def State.portOpen (s : State) : Bool := s.isRunning && !s.battery.loadoff

/-- The detector's run condition (R94). -/
def State.runCondition (s : State) : Bool := decide (s.intake.state = .running) && decide (s.battery.stage ≠ .shed)

/-- The bank's capacity in mA·s (R162). -/
def Profile.qCap (p : Profile) : Nat := 3600 * p.capacity

/-- The state of charge in percent (R162). -/
def State.soc (s : State) : Nat := 100 * s.battery.Q / s.profile.qCap

/-- The stage that a state of charge gives after a reset (table of R173). -/
def stageOfSoc (soc : Nat) : Stage := if 40 ≤ soc then .normal else if 20 ≤ soc then .conserve else .reserve

/-- A temperature input is usable: it has a reading and no fault (R161). -/
def usableTemp (reading : Option Int) (fault : Bool) : Option Int := if fault then none else reading

/-- CHGEN's condition at a reading (R168). -/
def State.chargeAllowed (s : State) : Bool :=
  match usableTemp s.battery.batteryTemp s.battery.batteryFault with
  | none => false
  | some t => decide (s.profile.chargeMin ≤ t) && decide (t ≤ s.profile.chargeMax) && decide (s.battery.stage ≠ .shed)

/-- The beacon period B′ of the stage in force (R73). -/
def State.stagePeriod (s : State) : Nat :=
  match s.battery.stage with
  | .normal => s.profile.beaconPeriod
  | .conserve => 2 * s.profile.beaconPeriod
  | .reserve => 4 * s.profile.beaconPeriod
  | .shed => 4 * s.profile.beaconPeriod

/-- The stage budget B_s (R179). -/
def State.stageBudget (s : State) : Nat :=
  match s.battery.stage with
  | .normal => s.profile.bVault
  | .conserve => s.profile.bVault / 2
  | .reserve => 0
  | .shed => 0

/-! ### Coincidence -/

/-- Two stamps lie within W of each other (R119). -/
def withinW (p : Profile) (a b : Time) : Bool := decide ((a.diff b).natAbs ≤ 1000000 * p.W)

/-- A stamp lies in the span of an event with this origin (R119). -/
def inSpan (p : Profile) (origin t : Time) : Bool :=
  decide (-((1000000 * p.W : Nat) : Int) ≤ t.diff origin) && decide (t.diff origin ≤ ((secondCycles * p.E : Nat) : Int))

/-- A time class votes (R120). -/
def TimeClass.votes : TimeClass → Bool
  | .t0 => true
  | .t1 => true
  | .t2 => true
  | .t3 => false
  | .t4 => false

/-- The weight of an eligible part (table of R120). -/
def TimeClass.weight : TimeClass → Nat
  | .t0 => 2
  | .t1 => 2
  | .t2 => 1
  | .t3 => 0
  | .t4 => 0

/-- A present trigger part is eligible (R120). -/
def TriggerPart.eligible (p : TriggerPart) : Bool := !p.consumed && !p.disturbed && p.cls.votes

/-- A final outcome (R142). -/
def AlertOutcome.final : AlertOutcome → Bool
  | .sent => true
  | .yielded => true
  | .lapsed => true
  | .none => false
  | .deferring => false
  | .pending => false

/-- The record holds an onset of a station at a time (R128). -/
def Event.holds (e : Event) (n : Station) (t : Time) : Bool := decide (e.members[n.val] = some t)

/-! ### Heater outputs -/

/-- A subsecond lies in a heater's window (R184). -/
def inWindow (sub offset steps : Nat) : Bool := 
  decide (((sub : Int) - (offset : Int)) % (secondCycles : Int) < ((312500 * steps : Nat) : Int))

/-- The window offset of HEAT0 (R184). -/
def heatOffset0 (n : Station) : Nat := 625000 * n.val

/-- The window offset of HEAT1 (R184). -/
def heatOffset1 (n : Station) : Nat := (5000000 + 625000 * n.val) % secondCycles

/-- The heaters may be driven at all (R184). -/
def State.heatersAllowed (s : State) : Bool :=
  s.isRunning && (decide (s.battery.stage = .normal) || decide (s.battery.stage = .conserve)) &&
    (match s.heater.hold with
     | .holding _ => false
     | .idle => true
     | .spent => true)

/-- HEAT0's level as R184 gives it. -/
def State.heat0Level (s : State) : Bool := s.heatersAllowed && inWindow s.now.sub (heatOffset0 s.own) s.heater.steps0

/-- HEAT1's level as R184 gives it. -/
def State.heat1Level (s : State) : Bool := s.heatersAllowed && inWindow s.now.sub (heatOffset1 s.own) s.heater.steps1

/-- The outputs follow the conditions of R184 and R185. -/
def State.followHeaters (s : State) : State :=
  { s with heater := { s.heater with out0 := s.heat0Level, out1 := s.heat1Level } }

/-! ### Annunciator -/

/-- The pattern bits and length of a level (R153). -/
def Profile.pattern (p : Profile) (level : Nat) : BitVec 12 × Nat :=
  if level = 2 then (p.pattern2, p.length2) else (p.pattern1, p.length1)

/-- Whether a slot of a level's pattern is driven (R153). -/
def Profile.slotDriven (p : Profile) (level slot : Nat) : Bool := (p.pattern level).1.getLsbD slot

end Sys2Proof.Machine
end

