-- ==== Sys2Proof/Machine/Operands.lean ====
section
/-! DEFINITION. The formats: the samples of a character, the bits of a set, the codes and bodies of frames, the check
character, and the fields of the profile (R28, R32, R35, R79, R200 to R203). -/

namespace Sys2Proof.Machine

/-! ### Codes (R200) -/

/-- Time-class code. -/
def TimeClass.code : TimeClass → Nat
  | .t0 => 0
  | .t1 => 1
  | .t2 => 2
  | .t3 => 3
  | .t4 => 4

/-- A class code; 5..7 are taken as T4 (R202). -/
def TimeClass.ofCode : Nat → TimeClass
  | 0 => .t0
  | 1 => .t1
  | 2 => .t2
  | 3 => .t3
  | _ => .t4

/-- Clock-state code. -/
def ClockState.code : ClockState → Nat
  | .unset => 0
  | .acquire => 1
  | .locked => 2
  | .holdover => 3
  | .peerSteered => 4

/-- Power-stage code. -/
def Stage.code : Stage → Nat
  | .normal => 0
  | .conserve => 1
  | .reserve => 2
  | .shed => 3

/-- A two-bit power-stage code. -/
def Stage.ofCode : Nat → Stage
  | 0 => .normal
  | 1 => .conserve
  | 2 => .reserve
  | _ => .shed

/-- End-reason code. -/
def EndReason.code : EndReason → Nat
  | .absent => 0
  | .normal => 1
  | .forced => 2
  | .halted => 3

/-- An end-reason code; above 3 it is taken as 3 (R202). -/
def EndReason.ofCode : Nat → EndReason
  | 0 => .absent
  | 1 => .normal
  | 2 => .forced
  | _ => .halted

/-- Alert and raise outcome code. -/
def AlertOutcome.code : AlertOutcome → Nat
  | .none => 0
  | .deferring => 1
  | .pending => 2
  | .sent => 3
  | .yielded => 4
  | .lapsed => 5

/-- History outcome code; 0 is NONE. -/
def SendOutcome.code : SendOutcome → Nat
  | .sent => 1
  | .superseded => 2
  | .expired => 3
  | .withdrawn => 4

/-- Detector-state code. -/
def DetectorState.code : DetectorState → Nat
  | .halted => 0
  | .warmup => 1
  | .armed => 2
  | .triggered => 3
  | .holdoff => 4

/-- Intake-state code. -/
def IntakeState.code : IntakeState → Nat
  | .priming => 0
  | .running => 1
  | .stalled => 2

/-- Step-cause code; 0 is NONE. -/
def StepCause.code : StepCause → Nat
  | .acquire => 1
  | .reference => 2
  | .seconds => 3
  | .peerEntry => 4
  | .peer => 5

/-- Quiet-hold code. -/
def Hold.code : Hold → Nat
  | .idle => 0
  | .holding _ => 1
  | .spent => 2

/-- Annunciator-state code. -/
def AnnState.code : AnnState → Nat
  | .off => 0
  | .waiting => 1
  | .playing => 2

/-- Load-outcome code. -/
def LoadOutcome.code : LoadOutcome → Nat
  | .valid => 0
  | .badSum => 1
  | .noAnswer => 2

/-- Frame-kind code (R32). -/
def FrameKind.code : FrameKind → Nat
  | .alert => 0
  | .alertRaise => 8
  | .onset => 4
  | .coda => 12
  | .beacon => 2
  | .heat => 10
  | .reply => 6
  | .query => 14

/-- The kind of a kind code; the odd codes are not assigned (R32). -/
def FrameKind.ofCode : Nat → Option FrameKind
  | 0 => some .alert
  | 2 => some .beacon
  | 4 => some .onset
  | 6 => some .reply
  | 8 => some .alertRaise
  | 10 => some .heat
  | 12 => some .coda
  | 14 => some .query
  | _ => none

/-- The number of body characters (R32, R201). -/
def FrameKind.bodyLength : FrameKind → Nat
  | .alert => 11
  | .alertRaise => 11
  | .onset => 9
  | .coda => 15
  | .beacon => 10
  | .heat => 4
  | .reply => 18
  | .query => 2

/-- The frame kind of a slot (R63). -/
def TxKind.frame : TxKind → FrameKind
  | .alert => .alert
  | .alertRaise => .alertRaise
  | .onset => .onset
  | .coda => .coda
  | .beacon => .beacon
  | .heat => .heat
  | .reply => .reply

/-- The head character's data byte (R32). -/
def headByte (k : FrameKind) (sender : Nat) : Byte := BitVec.ofNat 8 (k.code + 16 * sender)

/-! ### Characters (R27, R28) -/

/-- Sample n of bit time k, n in 1..16: true when it reads recessive (R28). -/
def sampleAt (w : BitVec 169) (k n : Nat) : Bool := w.getLsbD (16 * k + n - 1)

/-- A bit time read as the majority of its samples 7, 8 and 9 (R28). -/
def bitTime (w : BitVec 169) (k : Nat) : Bool :=
  decide (2 ≤ bit (sampleAt w k 7) + bit (sampleAt w k 8) + bit (sampleAt w k 9))

/-- The start edge was a glitch: sample 8 of bit time 0 reads recessive (R28). -/
def isGlitch (w : BitVec 169) : Bool := sampleAt w 0 8

/-- The data byte of a character: bit times 1 to 8, least significant first (R27, R28). -/
def charData (w : BitVec 169) : Byte :=
  BitVec.ofNat 8 (bit (bitTime w 1) + 2 * bit (bitTime w 2) + 4 * bit (bitTime w 3) + 8 * bit (bitTime w 4)
    + 16 * bit (bitTime w 5) + 32 * bit (bitTime w 6) + 64 * bit (bitTime w 7) + 128 * bit (bitTime w 8))

/-- The marker: bit time 9 (R27). -/
def charMarker (w : BitVec 169) : Bool := bitTime w 9

/-- The stop bit: bit time 10 (R27). -/
def charStop (w : BitVec 169) : Bool := bitTime w 10

/-- The dominant run that stands at the end of the first n samples of a character (R31). -/
def runAfter (w : BitVec 169) : Nat → Nat
  | 0 => 0
  | n + 1 => if w.getLsbD n then 0 else runAfter w n + 1

/-! ### The check character (R35) -/

/-- One data bit taken into the check register (R35, steps 1 to 3). -/
def crcBit (reg : Byte) (b : Bool) : Byte :=
  let shifted := reg <<< 1
  if b != reg.msb then shifted ^^^ 0x31 else shifted

/-- One byte taken into the check register, bit 0 first (R35). -/
def crcByte (reg data : Byte) : Byte :=
  ((List.range 8).map (fun k => data.getLsbD k)).foldl crcBit reg

/-- The check value of bytes: the register starts at 0xFF (R35). -/
def crcOf (bytes : List Byte) : Byte := bytes.foldl crcByte 0xFF

/-! ### Sample port (R79) -/

/-- The three values of a set: 24-bit two's complement, Z in bits 1 to 24 (R79). -/
def setValues (bits : BitVec 72) : Sample where
  z := (bits.extractLsb' 48 24).toInt
  n := (bits.extractLsb' 24 24).toInt
  e := (bits.extractLsb' 0 24).toInt

/-! ### Frame bodies (R201, R202) -/

/-- A station set's two bytes (R200). -/
def setBytes (x : BitVec 14) : List Byte := leBytes 2 x.toNat

/-- The body of an ALERT (R145, R201). -/
def alertBody (e : Event) : List Byte :=
  stampBytes e.origin ++ [BitVec.ofNat 8 (e.originStation.val + 16 * e.level)] ++ setBytes e.contributors
    ++ leBytes 1 e.weight

/-- The body of an ALERT-RAISE (R151, R201). -/
def raiseBody (e : Event) (peak : Nat) : List Byte :=
  stampBytes e.origin ++ [BitVec.ofNat 8 e.originStation.val] ++ leBytes 3 peak

/-- The body of an ONSET (R106, R201). -/
def onsetBody (r : TriggerRecord) : List Byte :=
  stampBytes r.onset ++ [BitVec.ofNat 8 (r.cls.code + 8 * bit r.disturbed + 16 * bit r.inexact)] ++ leBytes 1 r.ratio

/-- The body of a CODA (R112, R201). -/
def codaBody (r : TriggerRecord) : List Byte :=
  stampBytes r.onset ++ leBytes 3 r.peak ++ leBytes 2 r.peakOffset ++ leBytes 2 r.duration ++ leBytes 1 r.reason.code

/-- The body of a BEACON with its time field and class bits open (R42, R74, R201). -/
def beaconBody (clock : ClockState) (stage : Stage) (soc : Nat) (disturbed defaultProfile conflict : Bool) : List Byte :=
  leBytes 7 0 ++ [BitVec.ofNat 8 (8 * clock.code + 64 * stage.code)] ++ leBytes 1 soc
    ++ [BitVec.ofNat 8 (bit disturbed + 2 * bit defaultProfile + 4 * bit conflict)]

/-- The body of a HEAT (R176, R201). -/
def heatBody (demand urgent : Nat) : List Byte := leBytes 2 demand ++ leBytes 2 urgent

/-- The body of a REPLY (R196, R201). -/
def replyBody (topic : Nat) (index : Byte) (data : List Byte) : List Byte := BitVec.ofNat 8 topic :: index :: data

/-- The body an attempt sends: a BEACON's open fields are filled from the attempt's capture and class (R42). -/
def TxFrame.sentBody (f : TxFrame) (run : TxRun) : List Byte :=
  match f.kind with
  | .beacon =>
    stampBytes run.field ++ [BitVec.ofNat 8 ((f.body.getD 7 0).toNat + run.cls.code)] ++ f.body.drop 8
  | _ => f.body

/-- The data bytes of a whole frame: head, body and check character (R32, R38). -/
def TxFrame.sentBytes (f : TxFrame) (own : Station) (run : TxRun) : List Byte :=
  let front := headByte f.kind.frame own.val :: f.sentBody run
  front ++ [crcOf front]

/-- The characters of a whole frame (R32). -/
def TxFrame.characters (f : TxFrame) : Nat := f.kind.frame.bodyLength + 2

/-- The level of bit time `b` of a frame, counted from its first start bit: true for recessive (R27).
After its last character nothing is driven. -/
def frameLevel (bytes : List Byte) (b : Nat) : Bool :=
  if bytes.length ≤ b / 11 then true
  else match b % 11 with
  | 0 => false
  | 9 => decide (b / 11 = 0)
  | 10 => true
  | k => (bytes.getD (b / 11) 0).getLsbD (k - 1)

/-- The level of a bit time of the attempt in progress: true for recessive (R27, R38). -/
def State.sentLevel (s : State) (f : TxFrame) (run : TxRun) (b : Nat) : Bool := frameLevel (f.sentBytes s.own run) b

/-- The attempt in progress sends a 0 bit (R26, R38). -/
def State.sendsDominant (s : State) : Bool :=
  match s.trunk.tx with
  | .idle => false
  | .handed _ _ _ => false
  | .sending f run => !s.sentLevel f run (run.position / 16)

/-- The station drives TRUNK low: while an attempt sends a 0 bit, and to the end of the sample in which a drive fault is
read (R26, R38, R40). -/
def State.trunkDriven (s : State) : Bool := s.trunk.releasing || s.sendsDominant

/-- The attempt in progress stands at sample 8 of a bit time, where it reads the line back (R38). -/
def State.atReadBack (s : State) : Bool :=
  match s.trunk.tx with
  | .idle => false
  | .handed _ _ _ => false
  | .sending _ run => decide (run.position % 16 = 7)

/-- What the read-back of one bit shows (R38). -/
inductive ReadBack
  | equal | lost | failed
  deriving DecidableEq, Repr

/-- The read-back of a bit sent at one level and read at another, true for recessive (R38). -/
def readBack (sent read : Bool) : ReadBack :=
  match sent, read with
  | true, false => .lost
  | false, true => .failed
  | true, true => .equal
  | false, false => .equal

/-- The first unequal read-back of a character's bit times from `k` on, `n` of them; `level` gives the levels sent
(R38). -/
def readBackFrom (level : Nat → Bool) (w : BitVec 169) (k : Nat) : Nat → ReadBack
  | 0 => .equal
  | n + 1 =>
    match readBack (level k) (sampleAt w k 8) with
    | .equal => readBackFrom level w (k + 1) n
    | .lost => .lost
    | .failed => .failed

/-- What the read-back of the eleven bit times of a character shows; `equal` while nothing is sent (R38).
The attempt's bit timing and the receiver's coincide (R37). -/
def State.characterReadBack (s : State) (w : BitVec 169) : ReadBack :=
  match s.trunk.tx with
  | .idle => .equal
  | .handed _ _ _ => .equal
  | .sending f run => readBackFrom (fun k => s.sentLevel f run (11 * run.chars + k)) w 0 11

/-! ### The profile (R190, R192, R203) -/

/-- The sum of the 24 words of a profile image, modulo 65,536 (R190). -/
def profileSum (image : Vector Byte 48) : Nat :=
  ((List.range 24).map (fun k => field image.toList (2 * k) 2)).sum % 65536

/-- The profile is valid (R190). -/
def profileValid (image : Vector Byte 48) : Bool := decide (profileSum image = 0xA55A)

/-- A value with whether clamping changed it. -/
structure Drawn (α : Type) where
  value : α
  changed : Nat

/-- A field with a range (R192). -/
def drawNat (lo hi raw : Nat) : Drawn Nat :=
  let v := max lo (min raw hi)
  ⟨v, if v = raw then 0 else 1⟩

/-- A signed field with a range (R192). -/
def drawInt (lo hi raw : Int) : Drawn Int :=
  let v := clampInt lo hi raw
  ⟨v, if v = raw then 0 else 1⟩

/-- A 12-bit signed number (R203). -/
def signed12 (x : Nat) : Int := if x < 2048 then (x : Int) else (x : Int) - 4096

/-- A coded field: 0, 1, 2 stand for 4, 8, 16, and 3 becomes 16 as a clamped field (R203). -/
def drawCode : Nat → Drawn Nat
  | 0 => ⟨4, 0⟩
  | 1 => ⟨8, 0⟩
  | 2 => ⟨16, 0⟩
  | _ => ⟨16, 1⟩

/-- A pattern length: the nearest of 8, 10 and 12, the lower of two equally near (R192, R203). -/
def drawLength (raw : Nat) : Drawn Nat :=
  let v := if raw ≤ 9 then 8 else if raw ≤ 11 then 10 else 12
  ⟨v, if v = raw then 0 else 1⟩

/-- D: rounded down to a multiple of 50, then held to 50..1000 (R192). -/
def drawD (raw : Nat) : Drawn Nat :=
  let v := max 50 (min (raw - raw % 50) 1000)
  ⟨v, if v = raw then 0 else 1⟩

/-- R_off: held to 16..255 and then to the clamped R_on (R192). -/
def drawROff (rOn raw : Nat) : Drawn Nat :=
  let v := min (max 16 (min raw 255)) rOn
  ⟨v, if v = raw then 0 else 1⟩

/-- charge_max: held to its range and then to the clamped charge_min at least (R192). -/
def drawChargeMax (chargeMin raw : Int) : Drawn Int :=
  let v := max (clampInt (-400) 850 raw) chargeMin
  ⟨v, if v = raw then 0 else 1⟩

/-- The fields of a profile image, each clamped, with the clamped-field count (R192, R203). -/
def drawProfile (image : Vector Byte 48) : Profile × Nat :=
  let at' := fun (offset n : Nat) => field image.toList offset n
  let codes := at' 2 1
  let shifts := at' 3 1
  let times := at' 13 4
  let power := at' 24 4
  let charge := at' 34 3
  let heat := at' 37 3
  let beacon := drawCode (bitsOf codes 0 2)
  let depth := drawCode (bitsOf codes 2 2)
  let channels := bitsOf codes 4 3
  let emptySet := decide (channels = 0)
  let sShort := drawNat 2 6 (bitsOf shifts 0 4)
  let sLong := drawNat 8 12 (bitsOf shifts 4 4)
  let rOn := drawNat 24 255 (at' 6 1)
  let rOff := drawROff rOn.value (at' 7 1)
  let w := drawNat 1 80 (at' 10 1)
  let v := drawNat 2 28 (at' 11 1)
  let gain := drawNat 1 32 (at' 12 1)
  let maxDuration := drawNat 10 600 (bitsOf times 0 10)
  let e := drawNat 30 600 (bitsOf times 10 10)
  let qMax := drawNat 0 600 (bitsOf times 20 10)
  let strong := drawNat 0 8388607 (at' 17 3)
  let length1 := drawLength (bitsOf (at' 20 2) 12 4)
  let length2 := drawLength (bitsOf (at' 22 2) 12 4)
  let capacity := drawNat 1000 200000 (bitsOf power 0 18)
  let d := drawD (bitsOf power 18 10)
  let vFull := drawNat 10000 30000 (at' 28 2)
  let iTaper := drawNat 0 10000 (at' 30 2)
  let vShed := drawNat 6000 24000 (at' 32 2)
  let chargeMin := drawInt (-400) 850 (signed12 (bitsOf charge 0 12))
  let chargeMax := drawChargeMax chargeMin.value (signed12 (bitsOf charge 12 12))
  let warm := drawInt (-400) 850 (signed12 (bitsOf heat 0 12))
  let enclosure := drawInt (-400) 850 (signed12 (bitsOf heat 12 12))
  let rating0 := drawNat 1 32767 (at' 40 2)
  let rating1 := drawNat 1 32767 (at' 42 2)
  let p : Profile := {
    peerSet := BitVec.ofNat 14 (at' 0 2)
    beaconPeriod := beacon.value
    depth := depth.value
    latency := at' 4 2
    channelZ := emptySet || decide (bitsOf channels 0 1 = 1)
    channelN := decide (bitsOf channels 1 1 = 1)
    channelE := decide (bitsOf channels 2 1 = 1)
    sShort := sShort.value
    sLong := sLong.value
    rOn := rOn.value
    rOff := rOff.value
    floor := at' 8 2
    holdoff := bitsOf power 28 4
    maxDuration := maxDuration.value
    W := w.value
    V := v.value
    E := e.value
    D := d.value
    strong := strong.value
    pattern1 := BitVec.ofNat 12 (bitsOf (at' 20 2) 0 12)
    length1 := length1.value
    pattern2 := BitVec.ofNat 12 (bitsOf (at' 22 2) 0 12)
    length2 := length2.value
    capacity := capacity.value
    vFull := vFull.value
    iTaper := iTaper.value
    vShed := vShed.value
    chargeMin := chargeMin.value
    chargeMax := chargeMax.value
    warmSetpoint := warm.value
    enclosureSetpoint := enclosure.value
    gain := gain.value
    rating0 := rating0.value
    rating1 := rating1.value
    bVault := at' 44 2
    qMax := qMax.value }
  (p, beacon.changed + depth.changed + bit emptySet + sShort.changed + sLong.changed + rOn.changed + rOff.changed
    + w.changed + v.changed + gain.changed + maxDuration.changed + e.changed + qMax.changed + strong.changed
    + length1.changed + length2.changed + capacity.changed + d.changed + vFull.changed + iTaper.changed + vShed.changed
    + chargeMin.changed + chargeMax.changed + warm.changed + enclosure.changed + rating0.changed + rating1.changed)

/-! ### The bus of the profile memory (R189) -/

/-- The three bytes the part sends in an attempt: the address 0x53 with the write direction, the word address 0, the
address with the read direction (R189). -/
def busSent : List Byte := [0xA6, 0x00, 0xA7]

/-- What the part does in one bit period of an attempt (R189). -/
inductive BusPeriod
  | start
  /-- The part sends this bit. -/
  | send (b : Bool)
  /-- PSDA is released: the memory acknowledges, or sends a data bit. -/
  | listen
  /-- The part acknowledges a data byte. -/
  | acknowledge
  | stop
  | ended
  deriving DecidableEq, Repr

/-- Bit period `n` of an attempt: start, two bytes sent with their acknowledgements, repeated start, one byte sent, 48
bytes read, stop (R189; assumption log 28). -/
def busPeriod (n : Nat) : BusPeriod :=
  let sent := fun (k b : Nat) =>
    if b = 8 then BusPeriod.listen else BusPeriod.send ((busSent.getD k 0).getLsbD (7 - b))
  if n = 0 then .start
  else if n < 19 then sent ((n - 1) / 9) ((n - 1) % 9)
  else if n = 19 then .start
  else if n < 29 then sent 2 (n - 20)
  else if n < 461 then
    if (n - 29) % 9 = 8 then (if n = 460 then .listen else .acknowledge) else .listen
  else if n = 461 then .stop
  else .ended

/-- The bit periods in which the memory acknowledges the three bytes the part sends (R189). -/
def acknowledgePeriods : List Nat := [9, 18, 28]

/-- The cycles from an attempt's start to its stop: the end of the stop's bit period (R189; assumption log 28). -/
def stopCycles : Nat := 46200

/-- The moment of each result of an attempt, in cycles since its start (R189; assumption log 28).
The stop falls when PSDA is released at the end of its bit period; an acknowledgement is read 25 cycles after PSCL is
released; PSDA is found low where it must fall for a start condition or rise for the stop condition. -/
def attemptEndsAt (cycles : Nat) : ProfileEnd → Bool
  | .stopped _ => decide (cycles = stopCycles)
  | .notAcknowledged byte => decide (acknowledgePeriods[byte]? = some (cycles / 100)) && decide (cycles % 100 = 75)
  | .heldLow => decide (cycles = 75) || decide (cycles = 1975) || decide (cycles = stopCycles)

/-- The part holds PSCL low: the first 50 cycles of each bit period of an attempt but the start, and of the period in
which a failed attempt makes its stop condition (R189; assumption log 28). -/
def State.psclLow (s : State) : Bool :=
  match s.loader.bus with
  | .idle => false
  | .waiting _ => false
  | .aborting left => (decide (50 < left) && decide (left ≤ 100)) || decide (150 < left)
  | .reading cycles =>
    match busPeriod (cycles / 100) with
    | .ended => false
    | .start => decide (cycles / 100 = 19) && decide (cycles % 100 < 50)
    | .send _ => decide (cycles % 100 < 50)
    | .listen => decide (cycles % 100 < 50)
    | .acknowledge => decide (cycles % 100 < 50)
    | .stop => decide (cycles % 100 < 50)

/-- The part holds PSDA low (R189; assumption log 28). -/
def State.psdaLow (s : State) : Bool :=
  match s.loader.bus with
  | .idle => false
  | .waiting _ => false
  | .aborting left => decide (0 < left) && decide (left ≤ 100)
  | .reading cycles =>
    match busPeriod (cycles / 100) with
    | .start => decide (75 ≤ cycles % 100)
    | .send b => !b
    | .listen => false
    | .acknowledge => true
    | .stop => true
    | .ended => false

end Sys2Proof.Machine
end

