-- ==== Sys2Proof/Machine/OpsSched.lean ====
section
/-! DEFINITION. The outbound scheduler's operations, and the reports it makes to the requesting blocks (chapter 4; R114,
R139, R146, R178, R198). -/

namespace Sys2Proof.Machine

/-! ### Alert and raise outcomes (R139, R142, R146, R157) -/

/-- The outcome field of a record for a tracking kind. -/
def Event.outcome (e : Event) : AlertKind → AlertOutcome
  | .alert => e.alertOutcome
  | .raise => e.raiseOutcome

/-- Writes the outcome field of a record for a tracking kind (R139). -/
def Event.setOutcome (e : Event) (k : AlertKind) (o : AlertOutcome) : Event :=
  match k with
  | .alert => { e with alertOutcome := o }
  | .raise => { e with raiseOutcome := o }

/-- The counter that an outcome increases (table of R157). -/
def AlertCounters.count (c : AlertCounters) (k : AlertKind) (o : AlertOutcome) : AlertCounters :=
  match k, o with
  | .alert, .sent => { c with alertsSent := bump16 c.alertsSent }
  | .alert, .yielded => { c with alertsYielded := bump16 c.alertsYielded }
  | .alert, .lapsed => { c with alertsLapsed := bump16 c.alertsLapsed }
  | .raise, .sent => { c with raisesSent := bump16 c.raisesSent }
  | .raise, .yielded => { c with raisesYielded := bump16 c.raisesYielded }
  | .raise, .lapsed => { c with raisesLapsed := bump16 c.raisesLapsed }
  | _, .none => c
  | _, .deferring => c
  | _, .pending => c

/-- Counts an outcome (R157). -/
def State.countOutcome (s : State) (k : AlertKind) (o : AlertOutcome) : State :=
  { s with alerts := { s.alerts with counters := s.alerts.counters.count k o } }

/-- Writes an outcome that is not final, such as DEFERRING or PENDING (R142, R143, R144, R151). -/
def State.setOutcome (s : State) (k : AlertKind) (serial : BitVec 8) (o : AlertOutcome) : State :=
  s.updateEvent serial (fun e => e.setOutcome k o)

/-- Sets a final outcome and counts it; an outcome already final stays and nothing is counted; a record no longer in the
list still counts (R142, R146, R157). -/
def State.resolve (s : State) (k : AlertKind) (serial : BitVec 8) (o : AlertOutcome) : State :=
  match s.event serial with
  | none => s.countOutcome k o
  | some e => if (e.outcome k).final then s else (s.setOutcome k serial o).countOutcome k o

/-- The tracking entry with a kind and a serial (R146). -/
def State.trackingOf (s : State) (k : AlertKind) (serial : BitVec 8) : Option Tracking :=
  s.alerts.tracking.find? (fun t => decide (t.kind = k) && t.serial == serial)

/-- Removes that tracking entry. -/
def State.untrack (s : State) (k : AlertKind) (serial : BitVec 8) : State :=
  { s with alerts := { s.alerts with
      tracking := s.alerts.tracking.eraseP (fun t => decide (t.kind = k) && t.serial == serial) } }

/-- The outcome a final report sets (table of R146). -/
def reportedOutcome (cause : Cause) : SendOutcome → AlertOutcome
  | .sent => .sent
  | .withdrawn => (match cause with
    | .yield => .yielded
    | .lapse => .lapsed
    | .none => .lapsed)
  | .superseded => .lapsed
  | .expired => .lapsed

/-- The alert unit takes a final report on an ALERT or an ALERT-RAISE: the outcome, the counter, the tracking entry, and
after a SENT raise the raise-sent report (R146, R151). -/
def State.reportAlert (s : State) (k : AlertKind) (serial : BitVec 8) (o : SendOutcome) : State :=
  match s.trackingOf k serial with
  | none => s
  | some t =>
    let s := (s.untrack k serial).resolve k serial (reportedOutcome t.cause o)
    match k, o with
    | .raise, .sent => s.askCo (.raiseSent serial)
    | _, _ => s

/-! ### Reports to the other requesters (R71) -/

/-- The heater controller takes a report on a HEAT (R178, R187). -/
def State.reportHeat (s : State) (ref : Ref) (o : SendOutcome) : State :=
  let c := s.heater.counters
  match o with
  | .sent =>
    (match ref with
     | .demand n => { s with heater := { s.heater with announced := some n, counters := { c with sent := bump16 c.sent } } }
     | _ => { s with heater := { s.heater with counters := { c with sent := bump16 c.sent } } })
  | .superseded => { s with heater := { s.heater with counters := { c with notSent := bump16 c.notSent } } }
  | .expired => { s with heater := { s.heater with counters := { c with notSent := bump16 c.notSent } } }
  | .withdrawn => s

/-- The service responder takes the final report on its REPLY (R198). -/
def State.reportReply (s : State) (o : SendOutcome) : State :=
  let c := s.service.counters
  match o with
  | .sent => { s with service := { pendingReply := none, counters := { c with sent := bump16 c.sent } } }
  | .expired => { s with service := { pendingReply := none, counters := { c with expired := bump16 c.expired } } }
  | .superseded => { s with service := { pendingReply := none, counters := { c with expired := bump16 c.expired } } }
  | .withdrawn => s

/-- The detector takes a report on an ONSET (R114). -/
def State.reportOnset (s : State) (o : SendOutcome) : State :=
  match o with
  | .superseded => { s with detector := { s.detector with counters :=
      { s.detector.counters with onsetNotSent := bump16 s.detector.counters.onsetNotSent } } }
  | _ => s

/-- The detector takes a report on a CODA (R114). -/
def State.reportCoda (s : State) (o : SendOutcome) : State :=
  match o with
  | .superseded => { s with detector := { s.detector with counters :=
      { s.detector.counters with codaNotSent := bump16 s.detector.counters.codaNotSent } } }
  | _ => s

/-- The scheduler reports an outcome to the block that made the request (R71). The beacon schedule changes nothing on
its reports (R74). -/
def State.report (s : State) (k : TxKind) (ref : Ref) (o : SendOutcome) : State :=
  match k with
  | .beacon => s
  | .onset => s.reportOnset o
  | .coda => s.reportCoda o
  | .heat => s.reportHeat ref o
  | .reply => s.reportReply o
  | .alert => (match ref with
    | .serial n => s.reportAlert .alert n o
    | _ => s)
  | .alertRaise => (match ref with
    | .serial n => s.reportAlert .raise n o
    | _ => s)

/-- A request leaves the scheduler: its history record is written and its outcome reported at the same moment
(R71, R76). -/
def State.leave (s : State) (k : TxKind) (r : Request) (o : SendOutcome) : State :=
  let record : HistoryRecord := ⟨k, r.time, r.capture, r.attempts, o⟩
  ({ s with sched := { s.sched with history := (record :: s.sched.history).take 8 } }).report k r.ref o

/-! ### Requests (R64) -/

/-- A request is taken into the slot of its kind, or into the slot's waiting place (R64). -/
def State.request (s : State) (k : TxKind) (body : List Byte) (ref : Ref) (time : Time) (deadline : Option Time) : State :=
  let r : Request := ⟨body, ref, time, deadline, 0, none, false⟩
  match s.sched.slots.get k with
  | .empty => s.setSlot k (.ready r)
  | .ready old => (s.setSlot k (.ready r)).leave k old .superseded
  | .inFlight f none => s.setSlot k (.inFlight f (some r))
  | .inFlight f (some old) => (s.setSlot k (.inFlight f (some r))).leave k old .superseded

/-! ### Choice, hand-over and endings (R65 to R68) -/

/-- The kinds in order of priority (R32, R63). -/
def txPriority : List TxKind := [.alert, .alertRaise, .onset, .coda, .beacon, .heat, .reply]

/-- The request of a slot that is READY. -/
def Slot.readyRequest : Slot → Option Request
  | .ready r => some r
  | .empty => none
  | .inFlight _ _ => none

/-- The READY slot of highest priority (R65). -/
def Slots.chosen (x : Slots) : Option (TxKind × Request) :=
  txPriority.findSome? (fun k => (x.get k).readyRequest.map (fun r => (k, r)))

/-- The conditions of a choice besides a READY slot (R65, R37). -/
def State.mayChoose (s : State) : Bool :=
  s.isRunning && decide (s.trunk.line = .idle) && decide (s.trunk.tx = .idle)

/-- A slot's frame is handed to the transmitter, and the slot becomes IN-FLIGHT (R65). -/
def State.handOver (s : State) (k : TxKind) (r : Request) : State :=
  let s := s.setSlot k (.inFlight r none)
  { s with trunk := { s.trunk with tx := .handed ⟨k, r.body⟩ false false } }

/-- The transmitter reports *begun*: the tx capture is stored (R66). -/
def State.reportBegun (s : State) (k : TxKind) (capture : Time) : State :=
  match s.sched.slots.get k with
  | .inFlight r w => s.setSlot k (.inFlight { r with capture := some capture } w)
  | .empty => s
  | .ready _ => s

/-- What a slot holds once its frame in flight has left: the waiting request as it stands, or nothing (R67, R68). -/
def slotAfter : Option Request → Slot
  | some w => .ready w
  | none => .empty

/-- The transmitter reports *sent* (R67). -/
def State.reportSent (s : State) (k : TxKind) : State :=
  match s.sched.slots.get k with
  | .inFlight r w => (s.setSlot k (slotAfter w)).leave k r .sent
  | .empty => s
  | .ready _ => s

/-- A deadline lies at or before station time (R68, R69). -/
def Request.expired (r : Request) (now : Time) : Bool :=
  match r.deadline with
  | some d => now.reached d
  | none => false

/-- A frame returns to its slot: after an attempt that ended *lost* or in a *drive fault* (attempts increase), or after
a cancelled hand-over (they do not). The tests of R68 are taken in their order. -/
def State.returned (s : State) (k : TxKind) (attempted : Bool) : State :=
  match s.sched.slots.get k with
  | .empty => s
  | .ready _ => s
  | .inFlight f w =>
    let r := if attempted then { f with attempts := min (f.attempts + 1) 255 } else f
    if r.mark then (s.setSlot k (slotAfter w)).leave k r .withdrawn
    else match w with
      | some next => (s.setSlot k (.ready next)).leave k r .superseded
      | none => if r.expired s.now then (s.setSlot k .empty).leave k r .expired else s.setSlot k (.ready r)

/-! ### Expiry and withdrawal (R69, R70) -/

/-- The request of a slot that a passed deadline takes: READY in its slot, or in the waiting place (R69). -/
def Slot.expiring (x : Slot) (now : Time) : Bool :=
  match x with
  | .empty => false
  | .ready r => r.expired now
  | .inFlight _ none => false
  | .inFlight _ (some w) => w.expired now

/-- A request reaches its deadline while READY or waiting and leaves as EXPIRED (R69). -/
def State.expire (s : State) (k : TxKind) : State :=
  match s.sched.slots.get k with
  | .empty => s
  | .ready r => if r.expired s.now then (s.setSlot k .empty).leave k r .expired else s
  | .inFlight _ none => s
  | .inFlight f (some w) => if w.expired s.now then (s.setSlot k (.inFlight f none)).leave k w .expired else s

/-- The slot of a tracking kind. -/
def AlertKind.slot : AlertKind → TxKind
  | .alert => .alert
  | .raise => .alertRaise

/-- The outcome a withdrawal for a cause ends in (R147, R149). -/
def Cause.outcome : Cause → AlertOutcome
  | .yield => .yielded
  | .lapse => .lapsed
  | .none => .lapsed

/-- Records the withdrawal cause of a tracking entry, unless a cause is already recorded (R147, R149, R152). -/
def State.setCause (s : State) (k : AlertKind) (serial : BitVec 8) (cause : Cause) : State :=
  { s with alerts := { s.alerts with tracking := s.alerts.tracking.map (fun t =>
      if decide (t.kind = k) && t.serial == serial && decide (t.cause = .none) then { t with cause := cause } else t) } }

/-- The alert unit withdraws the request with a serial for a cause (R70, R147, R149, R152).
Found READY or waiting, the outcome is made final and the request leaves as WITHDRAWN; found in flight, the withdrawal
mark is set and the cause recorded; found nowhere, nothing changes. -/
def State.withdraw (s : State) (k : AlertKind) (serial : BitVec 8) (cause : Cause) : State :=
  let gone := fun (s : State) (r : Request) (v : Slot) =>
    ((s.resolve k serial cause.outcome).setSlot k.slot v).leave k.slot r .withdrawn
  match s.sched.slots.get k.slot with
  | .empty => s
  | .ready r => if r.ref = .serial serial then gone s r .empty else s
  | .inFlight f w =>
    if f.ref = .serial serial then
      (s.setSlot k.slot (.inFlight { f with mark := true } w)).setCause k serial cause
    else match w with
      | some r => if r.ref = .serial serial then gone s r (.inFlight f none) else s
      | none => s

/-! ### Steps (R72) -/

/-- A request's times moved by a step (R72). -/
def Request.move (r : Request) (x : Int) : Request :=
  { r with time := r.time.add x, deadline := r.deadline.map (fun t => t.add x), capture := r.capture.map (fun t => t.add x) }

/-- Every request of a slot moved by a step (R72). -/
def Slot.move (x : Int) : Slot → Slot
  | .empty => .empty
  | .ready r => .ready (r.move x)
  | .inFlight r w => .inFlight (r.move x) (w.map (fun r => r.move x))

end Sys2Proof.Machine
end

