-- ==== Sys2Proof/Machine/OpsHeat.lean ====
section
/-! DEFINITION. The heater controller's operations: requests, demand, announcement, allocation and quiet hold
(chapter 10). -/

namespace Sys2Proof.Machine

/-! ### Requests and demand (R175, R176) -/

/-- A heater's request in steps (R175): 0 without a usable temperature. -/
def heatRequest (reading : Option Int) (setpoint : Int) (gain : Nat) : Nat :=
  match reading with
  | none => 0
  | some t => if t < setpoint then min (((setpoint - t) * gain / 10).toNat) 32 else 0

/-- H0 is urgent (R175). -/
def heatUrgent (reading : Option Int) (chargeMin : Int) : Bool :=
  match reading with
  | none => false
  | some t => decide (t < chargeMin)

/-- A heater's demand (R176). -/
def heatDemand (request rating : Nat) : Nat := request * rating / 32

/-- Steps 1 and 2 of a computation: the two requests, the own demand, and the own row's heat part (R175, R176, R58). -/
def State.computeDemand (s : State) : State :=
  let p := s.profile
  let battery := usableTemp s.battery.batteryTemp s.battery.batteryFault
  let enclosure := usableTemp s.battery.enclosureTemp s.battery.enclosureFault
  let h0 := heatRequest battery p.warmSetpoint p.gain
  let h1 := heatRequest enclosure p.enclosureSetpoint p.gain
  let urgentFlag := heatUrgent battery p.chargeMin
  let d0 := heatDemand h0 p.rating0
  let d1 := heatDemand h1 p.rating1
  let urgent := if urgentFlag then d0 else 0
  let row := s.peers.row s.own
  { s with
    heater := { s.heater with h0 := h0, h1 := h1, h0Urgent := urgentFlag, demand0 := d0, demand1 := d1,
                              demand := d0 + d1, urgent := urgent }
    peers := s.peers.setRow s.own { row with heat := some ⟨d0 + d1, urgent, 0⟩ } }

/-! ### Announcement (R177, R178) -/

/-- A HEAT request with the own demand, 5 s before its deadline; the time of the last HEAT request is set
(R69, R176, R178). -/
def State.requestHeat (s : State) : State :=
  let d := s.heater.demand
  let s := { s with heater := { s.heater with lastRequest := some s.now } }
  s.request .heat (heatBody d s.heater.urgent) (.demand d) s.now (some (s.now.add 50000000))

/-- The demand has moved by enough to announce (R178, first condition). -/
def State.demandMoved (s : State) : Bool :=
  match s.heater.announced with
  | none => true
  | some a =>
    let moved := ((s.heater.demand : Int) - (a : Int)).natAbs
    decide (s.profile.bVault / 16 ≤ moved) && decide (1 ≤ moved)

/-- A HEAT request was made within the 10 s before this moment (R178, second condition; assumption log 31). -/
def State.recentHeat (s : State) : Bool :=
  match s.heater.lastRequest with
  | none => false
  | some t => decide (s.now.diff t ≤ 100000000)

/-- Step 3 of a computation: the change announcement (R178). -/
def State.announceChange (s : State) : State := if s.demandMoved && !s.recentHeat then s.requestHeat else s

/-! ### Allocation (R179, R180) -/

/-- The heat parts present in the table, by station number (R179). -/
def State.heatParts (s : State) : List HeatPart := stations.filterMap (fun n => (s.peers.row n).heat)

/-- The own grant (table of R179). -/
def grant (demand urgent u n budget : Nat) : Nat :=
  if u + n ≤ budget then demand
  else if budget ≤ u then urgent * budget / u
  else urgent + (demand - urgent) * (budget - u) / n

/-- The allocation: the sums, the grant, its division and the steps; the outputs follow at once (R179, R180, R184). -/
def State.allocate (s : State) : State :=
  let parts := s.heatParts
  let u := (parts.map (fun p => p.urgent)).sum
  let n := (parts.map (fun p => p.demand - p.urgent)).sum
  let budget := s.stageBudget
  let g := grant s.heater.demand s.heater.urgent u n budget
  let g0 := min g s.heater.demand0
  let g1 := g - g0
  let s := { s with heater := { s.heater with
      U := u, Nh := n, budget := budget, G := g, grant0 := g0, grant1 := g1,
      steps0 := g0 * 32 / s.profile.rating0, steps1 := g1 * 32 / s.profile.rating1 } }
  s.followHeaters

/-! ### Quiet hold (R182) -/

/-- The quiet-hold state after a flag has been set that was clear (R182). -/
def State.holdOnSet (s : State) : State :=
  match s.heater.hold with
  | .idle => { s with heater := { s.heater with
      hold := .holding s.now,
      counters := { s.heater.counters with holdsStarted := bump16 s.heater.counters.holdsStarted } } }
  | .holding _ => s
  | .spent => s

/-- The quiet-hold state after a flag has been cleared that was set: IDLE when neither remains (R182). -/
def State.holdOnClear (s : State) : State :=
  if s.heater.triggered || s.heater.eventOpen then s else { s with heater := { s.heater with hold := .idle } }

/-- The detector's TRIGGERED notice, or its notice that it has left TRIGGERED (R182). -/
def State.noticeTriggered (s : State) (on : Bool) : State :=
  if s.heater.triggered = on then s
  else
    let s := { s with heater := { s.heater with triggered := on } }
    (if on then s.holdOnSet else s.holdOnClear).followHeaters

/-- The coincidence unit's *event open* or *no event open* notice (R182). -/
def State.noticeEvent (s : State) (on : Bool) : State :=
  if s.heater.eventOpen = on then s
  else
    let s := { s with heater := { s.heater with eventOpen := on } }
    (if on then s.holdOnSet else s.holdOnClear).followHeaters

/-- The hold reaches its limit: SPENT, and the outputs are driven again (R183). -/
def State.limitHold (s : State) : State :=
  match s.heater.hold with
  | .holding _ => ({ s with heater := { s.heater with
      hold := .spent,
      counters := { s.heater.counters with holdsLimited := bump16 s.heater.counters.holdsLimited } } }).followHeaters
  | .idle => s
  | .spent => s

/-- The hold has lasted its limit of Q_max seconds (R183). -/
def State.holdLimitReached (s : State) : Bool :=
  match s.heater.hold with
  | .holding start => decide (((secondCycles * s.profile.qMax : Nat) : Int) ≤ s.now.diff start)
  | .idle => false
  | .spent => false

end Sys2Proof.Machine
end

