-- ==== Sys2Proof/Machine/OpsAlert.lean ====
section
/-! DEFINITION. The alert unit's operations: rank, deference, requests, resolutions and the annunciator (chapter 8). -/

namespace Sys2Proof.Machine

/-! ### Rank and deference (R143 to R145) -/

/-- The member onsets of a record, by station number. -/
def Event.memberList (e : Event) : List (Station × Time) :=
  stations.filterMap (fun n => (e.members[n.val]).map (fun t => (n, t)))

/-- A member comes before another in the order of R143: earlier onset, and on a tie the lower station number. -/
def memberBefore (a b : Station × Time) : Bool :=
  let x := a.2.diff b.2
  decide (x < 0) || (decide (x = 0) && decide (a.1 < b.1))

/-- The station's rank in a record (R143). -/
def Event.rank (e : Event) (own : Station) : Nat :=
  match e.members[own.val] with
  | some t => (e.memberList.filter (fun m => memberBefore m (own, t))).length
  | none => e.memberList.length + own.val

/-- Makes the ALERT request of a record as it stands, with its tracking entry; the outcome becomes PENDING
(R143, R144, R145). -/
def State.requestAlert (s : State) (serial : BitVec 8) : State :=
  match s.event serial with
  | none => s
  | some e =>
    let s := s.request .alert (alertBody e) (.serial serial) s.now none
    let s := { s with alerts := { s.alerts with tracking := s.alerts.tracking ++ [({ kind := .alert, serial := serial, cause := .none } : Tracking)] } }
    s.setOutcome .alert serial .pending

/-- The notice *declared*: the alert at rank 0, or the deference timer (R143). -/
def State.startDeference (s : State) (serial : BitVec 8) : State :=
  match s.event serial with
  | none => s
  | some e =>
    let rank := e.rank s.own
    if rank = 0 then s.requestAlert serial
    else
      let delay := 10000 * (rank * s.profile.D)
      let s := { s with alerts := { s.alerts with deference := some ⟨serial, s.now.add delay⟩ } }
      s.setOutcome .alert serial .deferring

/-- The deference timer has reached its expiry (R144). -/
def State.deferenceReached (s : State) : Bool :=
  match s.alerts.deference with
  | none => false
  | some t => s.now.reached t.expiry

/-- The deference timer is cleared. -/
def State.clearDeference (s : State) : State := { s with alerts := { s.alerts with deference := none } }

/-- The deference timer is cleared if it holds this serial (R147, R149, R150). -/
def State.clearDeferenceOf (s : State) (serial : BitVec 8) : State :=
  match s.alerts.deference with
  | none => s
  | some t => if t.serial == serial then s.clearDeference else s

/-- The deference timer expires (R144). -/
def State.expireDeference (s : State) : State :=
  match s.alerts.deference with
  | none => s
  | some t => (s.requestAlert t.serial).clearDeference

/-! ### The annunciator (R153 to R156) -/

/-- The annunciator starts when an event opens while none was open: WAITING, ANN released (R154). -/
def State.startAnnunciator (s : State) : State :=
  { s with alerts := { s.alerts with annState := .waiting, slot := 0, level := 0, slotPoint := none, ann := false } }

/-- The annunciator stops: OFF, ANN released (R156). -/
def State.stopAnnunciator (s : State) : State :=
  { s with alerts := { s.alerts with annState := .off, slot := 0, level := 0, slotPoint := none, ann := false } }

/-- A pattern starts with the level of the open record: slot 0 (R154, R155). -/
def State.startPattern (s : State) (point : Time) : State :=
  match s.openEvent with
  | none => s
  | some e => { s with alerts := { s.alerts with
      annState := .playing, slot := 0, level := e.level, slotPoint := some point, ann := s.profile.slotDriven e.level 0 } }

/-- The annunciator at a slot boundary: the next slot, or a new pattern after the last (R155). -/
def State.nextSlot (s : State) (point : Time) : State :=
  if s.alerts.slot + 1 < (s.profile.pattern s.alerts.level).2 then
    { s with alerts := { s.alerts with
        slot := s.alerts.slot + 1, slotPoint := some point,
        ann := s.profile.slotDriven s.alerts.level (s.alerts.slot + 1) } }
  else s.startPattern point

/-- The annunciator at a second boundary event (R154, R155). -/
def State.annunciateBoundary (s : State) (point : Time) : State :=
  match s.alerts.annState with
  | .off => s
  | .waiting => s.startPattern point
  | .playing => s.nextSlot point

/-- The quarter-second point inside the second that has fallen in the cycle just counted (R155). -/
def State.quarterPoint (s : State) : Option Time :=
  match s.fell 2500000 with
  | some p => some p
  | none =>
    match s.fell 5000000 with
    | some p => some p
    | none => s.fell 7500000

/-- A slot boundary inside the second is due: PLAYING, and this point has not moved the slot yet (R155). -/
def State.slotDue (s : State) : Option Time :=
  match s.alerts.annState, s.quarterPoint with
  | .playing, some p => if s.alerts.slotPoint = some p then none else some p
  | .playing, none => none
  | .off, _ => none
  | .waiting, _ => none

/-! ### Notices from the coincidence unit (R147, R149, R150, R152) -/

/-- *ALERT matched* (R147). -/
def State.alertMatched (s : State) (serial : BitVec 8) : State :=
  match s.event serial with
  | none => s
  | some e =>
    match e.alertOutcome with
    | .none => s
    | .deferring => (s.clearDeferenceOf serial).resolve .alert serial .yielded
    | .pending => s.withdraw .alert serial .yield
    | .sent => s
    | .yielded => s
    | .lapsed => s

/-- *ALERT-RAISE matched* (R152). -/
def State.raiseMatched (s : State) (serial : BitVec 8) : State :=
  match s.event serial with
  | none => s
  | some e =>
    match e.raiseOutcome with
    | .none => s
    | .deferring => s
    | .pending => s.withdraw .raise serial .yield
    | .sent => s
    | .yielded => s
    | .lapsed => s

/-- *closed*, for the alert outcome (R149). -/
def State.closeAlert (s : State) (serial : BitVec 8) : State :=
  match s.event serial with
  | none => s
  | some e =>
    match e.alertOutcome with
    | .none => s
    | .deferring => (s.clearDeferenceOf serial).resolve .alert serial .lapsed
    | .pending => s.withdraw .alert serial .lapse
    | .sent => s
    | .yielded => s
    | .lapsed => s

/-- *closed*, for the raise outcome (R149). -/
def State.closeRaise (s : State) (serial : BitVec 8) : State :=
  match s.event serial with
  | none => s
  | some e =>
    match e.raiseOutcome with
    | .none => s
    | .deferring => s
    | .pending => s.withdraw .raise serial .lapse
    | .sent => s
    | .yielded => s
    | .lapsed => s

/-- *closed* (R149). DESIGN CHOICE (assumption log 41): the alert outcome is resolved before the raise outcome, so the
history record of a withdrawn ALERT is written before that of a withdrawn ALERT-RAISE. -/
def State.alertClosed (s : State) (serial : BitVec 8) : State := (s.closeAlert serial).closeRaise serial

/-! ### Raising an event (R151) -/

/-- *strong*, with the recorded peak (R151). -/
def State.noticeStrong (s : State) (peak : Nat) : State :=
  let declined := { s with alerts := { s.alerts with counters :=
      { s.alerts.counters with declinedStrong := bump16 s.alerts.counters.declinedStrong } } }
  match s.openEvent with
  | none => declined
  | some e =>
    if e.level = 1 ∧ e.raiseOutcome = .none then
      let s := s.request .alertRaise (raiseBody e peak) (.serial e.serial) s.now none
      let s := { s with alerts := { s.alerts with tracking := s.alerts.tracking ++ [({ kind := .raise, serial := e.serial, cause := .none } : Tracking)] } }
      s.setOutcome .raise e.serial .pending
    else declined

end Sys2Proof.Machine
end

