-- ==== Sys2Proof/Machine/OpsStep.lean ====
section
/-! DEFINITION. A step of station time with all its effects on the twelve blocks, as one operation (R22, R23). -/

namespace Sys2Proof.Machine

/-- Marks a stored offset stale (R53). -/
def Row.markStale (r : Row) : Row := { r with time := r.time.map (fun p => { p with stale := true }) }

/-- The clock's own part of a step of size `x`: time, d, epoch, log, steps counter and held times (R22, R23).
`advanced` falls to 0: no schedule point falls by a step (R4; assumption log 9).
DESIGN CHOICE (assumption log 9): so a second boundary, a candidate point or an announcement point that counting reached
in this same cycle, and that is not yet taken, is not taken after the step; R89 says so for ticks, and no rule for these
(R4, R75, R177).
DESIGN CHOICE (assumption log 10): `hold` stands, so an extra cycle still to be counted holds the new value.
DESIGN CHOICE (assumption log 42): `lossStart` is moved before any edge too, when it is the end of loading. -/
def Clock.step (c : Clock) (x : Int) (cause : StepCause) : Clock :=
  let time := c.time.add x
  let entry : StepEntry := ⟨time, clampInt (-2147483647) 2147483647 x, cause⟩
  let moved : Clock := { c with
    time := time
    advanced := 0
    awaiting := c.awaiting.map (fun e => { e with captured := e.captured.add x })
    taken := c.taken.map (fun t => { t with edge := { t.edge with captured := t.edge.captured.add x } })
    lastEdge := c.lastEdge.map (fun t => t.add x)
    lossStart := c.lossStart.map (fun t => t.add x)
    refLast := c.refLast.map (fun t => t.add x)
    epoch := c.epoch + 1
    log := (entry :: c.log).take 4
    counters := if cause = .seconds then c.counters else { c.counters with steps := bump16 c.counters.steps } }
  moved.refix

/-- A receiver's capture of the character in progress, moved (R36; assumption log 22). -/
def Receiver.move (x : Int) : Receiver → Receiver
  | .inChar sample capture => .inChar sample (capture.add x)
  | .off => .off
  | .hunting => .hunting
  | .waitRecessive => .waitRecessive

/-- The rx capture of a frame being assembled, moved (R36). -/
def Assembler.move (x : Int) : Assembler → Assembler
  | .assembling f => .assembling { f with capture := f.capture.add x }
  | .noFrame => .noFrame
  | .discarding => .discarding

/-- An attempt in progress after a step: the tx capture moves, and a BEACON's time field moves with it while its first
character has not begun (R42, R72). -/
def TxRun.move (x : Int) (r : TxRun) : TxRun :=
  { r with capture := r.capture.add x, field := if r.position < 176 then r.field.add x else r.field }

/-- The transmitter after a step (R42). -/
def Transmitter.move (x : Int) : Transmitter → Transmitter
  | .sending f run => .sending f (run.move x)
  | .idle => .idle
  | .handed f e b => .handed f e b

/-- The trunk controller after a step (R36, R42). -/
def Trunk.move (x : Int) (t : Trunk) : Trunk :=
  { t with receiver := t.receiver.move x, assembler := t.assembler.move x, tx := t.tx.move x }

/-- The rx capture of an entry of the inbound queue, moved (R47). -/
def InEntry.move (x : Int) (e : InEntry) : InEntry := { e with capture := e.capture.add x }

/-- The peer table after a step: captures in the queue and in hand move, and every stored offset becomes stale
(R47, R53). -/
def Peers.move (x : Int) (p : Peers) : Peers :=
  { p with
    queue := p.queue.map (fun e => e.move x)
    hand := p.hand.map (fun e => e.move x)
    rows := p.rows.map Row.markStale }

/-- The scheduler after a step: every time held for a request moves; the history and the last candidate point stand
(R72, R75). -/
def Sched.move (x : Int) (c : Sched) : Sched := { c with slots := c.slots.map (fun v => v.move x) }

/-- The intake after a step: the stamps in the store and of the last delivered set move (R91). -/
def Intake.move (x : Int) (i : Intake) : Intake :=
  { i with
    store := i.store.map (fun e => { e with stamp := e.stamp.add x })
    last := i.last.map (fun e => { e with stamp := e.stamp.add x }) }

/-- The coincidence unit after a step: the declared-at time of the open record moves (R131). -/
def Coincidence.move (x : Int) (c : Coincidence) : Coincidence :=
  { c with events := c.events.map (fun e => if e.isOpen then { e with declaredAt := e.declaredAt.add x } else e) }

/-- The annunciator after a step: from WAITING or PLAYING it starts afresh at the next boundary event (R156). -/
def Alerts.restart (a : Alerts) : Alerts :=
  match a.annState with
  | .off => a
  | .waiting => { a with annState := .waiting, slot := 0, level := 0, slotPoint := none, ann := false }
  | .playing => { a with annState := .waiting, slot := 0, level := 0, slotPoint := none, ann := false }

/-- The alert unit after a step: the expiry of the deference timer moves, and the annunciator restarts (R144, R156). -/
def Alerts.move (x : Int) (a : Alerts) : Alerts :=
  { a.restart with deference := a.deference.map (fun t => { t with expiry := t.expiry.add x }) }

/-- A hold's start time, moved (R183). -/
def Hold.move (x : Int) : Hold → Hold
  | .holding start => .holding (start.add x)
  | .idle => .idle
  | .spent => .spent

/-- The heater controller's times after a step (R178, R183). -/
def Heater.move (x : Int) (h : Heater) : Heater :=
  { h with hold := h.hold.move x, lastRequest := h.lastRequest.map (fun t => t.add x) }

/-- A step of size `x` for a cause, with every effect of R22: the clock's own, and those of the trunk controller, the
peer table, the scheduler, the intake, the coincidence unit, the alert unit and the heater controller (R36, R42, R47,
R53, R72, R91, R131, R144, R156, R178, R183, R185). -/
def State.applyStep (s : State) (x : Int) (cause : StepCause) : State :=
  let s := { s with
    clock := s.clock.step x cause
    trunk := s.trunk.move x
    peers := s.peers.move x
    sched := s.sched.move x
    intake := s.intake.move x
    co := s.co.move x
    alerts := s.alerts.move x
    heater := s.heater.move x }
  s.followHeaters

end Sys2Proof.Machine
end

