-- ==== Sys2Proof/Machine/OpsClock.lean ====
section
/-! DEFINITION. The station clock's operations: holdover, peer steering, acquisition, reference intervals, edges and
time records (R5 to R21). -/

namespace Sys2Proof.Machine

/-! ### Trim and slew (R3) -/

/-- F held to its range (R3). -/
def clampF (x : Int) : Int := clampInt (-3200) 3200 x

/-- P held to its range (R3). -/
def clampP (x : Int) : Int := clampInt (-12) 12 x

/-- An evaluation's new F (R15, steps 1 to 3). -/
def newTrim (F P eStart eNow : Int) : Int := clampF (F + (eNow - (eStart - 16 * P)).tdiv 2)

/-- A slew's P (R15, R20). -/
def newSlew (eNow : Int) : Int := clampP (eNow.tdiv 16)

/-- Writes P, and fixes d again (R2, R3). -/
def Clock.setSlew (c : Clock) (P : Int) : Clock := { c with P := P }.refix

/-- Writes F and P, and fixes d again (R2, R3). -/
def Clock.setTrim (c : Clock) (F P : Int) : Clock := { c with F := F, P := P }.refix

/-! ### Peer steering (R18 to R21) -/

/-- The clock enters PEER-STEERED from HOLDOVER or UNSET (R19). -/
def State.enterPeerSteered (s : State) : State :=
  let m := median s.sourceOffsets
  let s := s.mapClock (fun c =>
    { c with state := .peerSteered, steeringClass := some c.timeClass, restartPending := false })
  if 2000 < m.natAbs then
    let s := s.applyStep (-m) .peerEntry
    s.mapClock (fun c => { c with interval := .peer 0 c.time }.setSlew 0)
  else
    s.mapClock (fun c => { c with interval := .peer m c.time }.setSlew 0)

/-- In HOLDOVER or UNSET a source starts peer steering (R19). -/
def State.considerSources (s : State) : State := if s.sourceOffsets.isEmpty then s else s.enterPeerSteered

/-- The clock enters HOLDOVER; its class has changed, so the sources are examined (R16, R18). -/
def State.enterHoldover (s : State) : State :=
  let s := s.mapClock (fun c =>
    { c with state := .holdover, interval := .none, restartPending := false, acquirePending := false, age := 0,
             aged := false }.setSlew 0)
  s.considerSources

/-- In PEER-STEERED: no candidate ends the steering, and a source starts an interval that is restart-pending
(R20, R21). -/
def State.considerCandidates (s : State) : State :=
  if s.candidates.isEmpty then s.enterHoldover
  else if s.clock.restartPending && !s.sourceOffsets.isEmpty then
    s.mapClock (fun c => { c with interval := .peer (median s.sourceOffsets) c.time, restartPending := false })
  else s

/-- The clock examines its candidates and sources again (R18, R54). -/
def State.reexamine (s : State) : State :=
  match s.clock.state with
  | .unset => s.considerSources
  | .holdover => s.considerSources
  | .peerSteered => s.considerCandidates
  | .acquire => s
  | .locked => s

/-- A peer evaluation is due (R20). -/
def State.peerEvaluationDue (s : State) : Bool :=
  match s.clock.state, s.clock.interval with
  | .peerSteered, .peer _ start => !s.clock.restartPending && decide (160000000 ≤ s.now.diff start)
  | .peerSteered, .none => false
  | .peerSteered, .reference _ _ => false
  | .unset, _ => false
  | .acquire, _ => false
  | .locked, _ => false
  | .holdover, _ => false

/-- The phase error at the start of the interval in progress (R14, R20). -/
def Interval.eStart : Interval → Int
  | .none => 0
  | .reference e _ => e
  | .peer e _ => e

/-- A peer evaluation (R20). -/
def State.evaluatePeers (s : State) : State :=
  if s.sourceOffsets.isEmpty then s.mapClock (fun c => { c with restartPending := true })
  else
    let eNow := median s.sourceOffsets
    let F := newTrim s.clock.F s.clock.P s.clock.interval.eStart eNow
    if eNow.natAbs ≤ 2000 then
      s.mapClock (fun c => { c with interval := .peer eNow c.time }.setTrim F (newSlew eNow))
    else
      let s := (s.mapClock (fun c => { c with F := F })).applyStep (-eNow) .peer
      s.mapClock (fun c => { c with interval := .peer 0 c.time }.setTrim F 0)

/-! ### Reference loss and missing edges (R7, R9) -/

/-- A reference loss (R9). -/
def State.loseReference (s : State) : State :=
  let s := s.mapClock (fun c => { c with
    missing := 0, outliers := 0, returnCount := 0, counters := { c.counters with losses := bump16 c.counters.losses } })
  match s.clock.state with
  | .acquire => s.enterHoldover
  | .locked => s.enterHoldover
  | .unset => s
  | .holdover => s
  | .peerSteered => s

/-- A partial reference interval is discarded; a peer interval stands (R14; assumption log 15). -/
def Interval.discard : Interval → Interval
  | .reference _ _ => .none
  | .none => .none
  | .peer e t => .peer e t

/-- The effects of a missing edge on the clock (R7). -/
def Clock.edgeMissing (c : Clock) : Clock :=
  { c with
    awaiting := none, missing := c.missing + 1, returnCount := 0, interval := c.interval.discard,
    counters := { c.counters with missingRecords := bump16 c.counters.missingRecords } }

/-- 900 ms have passed since the capture of the edge awaiting its record (R7). -/
def State.edgeOverdue (s : State) : Bool :=
  match s.clock.awaiting with
  | none => false
  | some e => decide (9000000 ≤ s.now.diff e.captured)

/-- The 3 s period without a rising edge has ended (R9). -/
def State.lossPeriodOver (s : State) : Bool :=
  match s.clock.lossStart with
  | none => false
  | some t => decide (30000000 ≤ s.now.diff t)

/-! ### Edges (R5) -/

/-- The phase error of an edge at subsecond `c` (R5). -/
def phaseError (c : Nat) : Int := if c < 5000000 then (c : Int) else (c : Int) - 10000000

/-- The edge seen at this moment (R5). -/
def Clock.newEdge (c : Clock) : Edge where
  c := c.time.sub
  e := phaseError c.time.sub
  assigned := if 0 ≤ phaseError c.time.sub then c.time.sec else c.time.sec + 1
  captured := c.time
  gap := match c.lastEdge with
    | none => true
    | some t => decide (15000000 < c.time.diff t)

/-- A rising edge: an earlier edge still awaiting is missing, and this one awaits its record (R5, R7, R9). -/
def Clock.takeEdge (c : Clock) : Clock :=
  let edge := c.newEdge
  let c := if c.awaiting.isSome then c.edgeMissing else c
  { c with awaiting := some edge, lastEdge := some c.time, lossStart := some c.time }

/-! ### Acquisition (R13) -/

/-- The clock is in ACQUIRE: P is 0, the return count is 0 and any interval ends (R13, R17). -/
def Clock.enterAcquire (c : Clock) (waiting : Bool) : Clock :=
  { c with state := .acquire, interval := .none, restartPending := false, acquirePending := waiting, returnCount := 0
           }.setSlew 0

/-- The size of an acquisition step (R13; assumption log 14). DESIGN CHOICE (assumption log 11): R13 gives the
difference of the seconds modulo 2^32 without a range, and it is read signed, as R10 reads its own. -/
def acquisitionSize (t : Taken) : Int := Time.diff ⟨t.seconds, 0⟩ t.edge.captured

/-- The acquisition edge: the step, if its size is not 0, and a new reference interval (R13). -/
def State.acquisition (s : State) (t : Taken) : State :=
  let s := if acquisitionSize t = 0 then s else s.applyStep (acquisitionSize t) .acquire
  s.mapClock (fun c => { c with acquirePending := false, interval := .reference 0 0 }.setSlew 0)

/-! ### Reference intervals (R14, R15) -/

/-- A taken edge that is not an outlier enters the interval (R14). -/
def Clock.intervalEdge (c : Clock) (edge : Edge) : Clock :=
  match c.interval with
  | .reference eStart n =>
    if edge.gap then { c with interval := .reference edge.e 0 }.setSlew 0
    else { c with interval := .reference eStart (n + 1) }
  | .none => { c with interval := .reference edge.e 0 }.setSlew 0
  | .peer _ _ => { c with interval := .reference edge.e 0 }.setSlew 0

/-- The seconds correction: a step of whole seconds when the record names another second (R10). -/
def State.correctSeconds (s : State) (t : Taken) : State :=
  if t.seconds = t.edge.assigned then s
  else
    let s := s.applyStep (secondCycles * (t.seconds - t.edge.assigned).toInt) .seconds
    s.mapClock (fun c => { c with counters := { c.counters with corrections := bump16 c.counters.corrections } })

/-- The interval has its sixteenth edge: that edge is the evaluation edge (R14). -/
def Interval.complete : Interval → Bool
  | .reference _ n => decide (16 ≤ n)
  | .none => false
  | .peer _ _ => false

/-- A taken edge enters the interval; the evaluation edge is kept for its evaluation (R14; assumption log 4). -/
def Clock.disciplineEdge (c : Clock) (t : Taken) : Clock :=
  let c := c.intervalEdge t.edge
  { c with taken := if c.interval.complete then some t else none }

/-- A taken edge used for discipline: the seconds correction, then the interval (R7, R10, R14). -/
def State.discipline (s : State) (t : Taken) : State :=
  (s.correctSeconds t).mapClock (fun c => c.disciplineEdge t)

/-- An outlier in LOCKED (R8). -/
def Clock.takeOutlier (c : Clock) : Clock :=
  { c with
    outliers := c.outliers + 1, interval := c.interval.discard,
    counters := { c.counters with outliers := bump16 c.counters.outliers } }

/-- A taken edge of a returning reference (R17). -/
def Clock.countReturn (c : Clock) (t : Taken) : Clock :=
  let n := if t.edge.gap then 1 else c.returnCount + 1
  { c with returnCount := n, taken := if 3 ≤ n then some t else none }

/-- A taken edge, handled by the rules of the clock state (table of R7). -/
def State.takenEdge (s : State) (t : Taken) : State :=
  match s.clock.state with
  | .unset => (s.mapClock (fun c => c.enterAcquire false)).acquisition t
  | .acquire => if s.clock.acquirePending then s.acquisition t else s.discipline t
  | .locked =>
    if 10000 < t.edge.e.natAbs then s.mapClock Clock.takeOutlier
    else (s.mapClock (fun c => { c with outliers := 0 })).discipline t
  | .holdover => s.mapClock (fun c => c.countReturn t)
  | .peerSteered => s.mapClock (fun c => c.countReturn t)

/-- The interval's sixteenth edge has been taken and is not yet evaluated (R14). -/
def State.evaluationDue (s : State) : Bool :=
  s.clock.interval.complete && s.clock.taken.isSome

/-- A reference evaluation (R15). -/
def State.evaluateReference (s : State) : State :=
  match s.clock.taken with
  | none => s
  | some t =>
    let eNow := t.edge.e
    let F := newTrim s.clock.F s.clock.P s.clock.interval.eStart eNow
    let s := s.mapClock (fun c => { c with taken := none })
    if eNow.natAbs ≤ 200 then
      s.mapClock (fun c => { c with
        interval := .reference eNow 0,
        state := if c.state = ClockState.acquire ∧ eNow.natAbs ≤ 100 then ClockState.locked else c.state }.setTrim F (newSlew eNow))
    else
      let s := (s.mapClock (fun c => { c with F := F })).applyStep (-eNow) .reference
      s.mapClock (fun c => { c with interval := .reference 0 0 }.setTrim F 0)

/-- The third taken edge of a return has been counted (R17). -/
def State.returnDue (s : State) : Bool :=
  match s.clock.state with
  | .holdover => decide (3 ≤ s.clock.returnCount) && s.clock.taken.isSome
  | .peerSteered => decide (3 ≤ s.clock.returnCount) && s.clock.taken.isSome
  | .unset => false
  | .acquire => false
  | .locked => false

/-- The reference has returned: ACQUIRE, with this edge as the acquisition edge (R13, R17). -/
def State.returnReference (s : State) : State :=
  match s.clock.taken with
  | none => s
  | some t => (s.mapClock (fun c => { c.enterAcquire false with taken := none })).acquisition t

/-! ### Time records (R6, R7) -/

/-- The check byte of a record: the exclusive-OR of its first six bytes (R6). -/
def recordCheck (bytes : List Byte) : Byte := (bytes.take 6).foldl (fun x b => x ^^^ b) 0

/-- Assembly is abandoned with a bad record (R6). -/
def Clock.badRecord (c : Clock) : Clock :=
  { c with refBytes := [], counters := { c.counters with badRecords := bump16 c.counters.badRecords } }

/-- More than this many cycles have passed since the stop bit of the last character of the record being assembled. -/
def State.recordGap (s : State) (cycles : Nat) : Bool :=
  !s.clock.refBytes.isEmpty &&
    (match s.clock.refLast with
     | none => false
     | some t => decide ((cycles : Int) < s.now.diff t))

/-- Cycles from the start edge of a REFRX character to the middle of its stop bit: nine and a half bit times at
9600 bit/s (R6; assumption log 12). -/
def refCharCycles : Nat := 9896

/-- A complete record is paired with the edge awaiting its record (R7). -/
def State.pairRecord (s : State) (seconds : BitVec 32) (valid : Bool) : State :=
  match s.clock.awaiting with
  | none => s
  | some edge =>
    if s.now.diff edge.captured ≤ 9000000 then
      if valid then
        (s.mapClock (fun c => { c with awaiting := none, missing := 0 })).takenEdge ⟨edge, seconds⟩
      else (s.mapClock (fun c => { c with awaiting := none })).loseReference
    else s

/-- The seventh byte: the check, and a complete record's pairing (R6). -/
def State.endRecord (s : State) (bytes : List Byte) : State :=
  if bytes.getD 6 0 = recordCheck bytes then
    (s.mapClock (fun c => { c with refBytes := [] })).pairRecord (BitVec.ofNat 32 (field bytes 1 4))
      ((bytes.getD 5 0).getLsbD 0)
  else s.mapClock Clock.badRecord

/-- A REFRX character with no gap before it (R6; assumption log 13). -/
def State.recordCharacter (s : State) (data : Byte) (stop : Bool) : State :=
  if s.clock.refBytes.isEmpty then
    if stop && data == 0x5A then s.mapClock (fun c => { c with refBytes := [data] }) else s
  else if !stop then s.mapClock Clock.badRecord
  else if s.clock.refBytes.length < 6 then s.mapClock (fun c => { c with refBytes := c.refBytes ++ [data] })
  else s.endRecord (s.clock.refBytes ++ [data])

/-- A REFRX character: a gap before it abandons the record in assembly; then the character is taken (R6). -/
def State.refCharacter (s : State) (data : Byte) (stop : Bool) : State :=
  let s := if s.recordGap (50000 + refCharCycles) then s.mapClock Clock.badRecord else s
  (s.mapClock (fun c => { c with refLast := some c.time })).recordCharacter data stop

end Sys2Proof.Machine
end

