-- ==== Sys2Proof/Machine/OpsTrunk.lean ====
section
/-! DEFINITION. The trunk controller's operations: the line, characters, frame assembly and the transmitter (R26 to R44).
The commands of this block are reports of what the line shows (assumption logs 17 to 21). -/

namespace Sys2Proof.Machine

/-! ### State changes -/

/-- Changes the trunk controller. -/
def State.mapTrunk (s : State) (f : Trunk → Trunk) : State := { s with trunk := f s.trunk }

/-- The receiver is inside a character. -/
def Receiver.inside : Receiver → Bool
  | .inChar _ _ => true
  | .off => false
  | .hunting => false
  | .waitRecessive => false

/-- The station-conflict timer is set to 600, and the flag is raised (R49). -/
def State.raiseConflict (s : State) : State := { s with peers := { s.peers with conflictTimer := 600, conflict := true } }

/-! ### The frame assembler (R33 to R36) -/

/-- A complete frame is delivered to the inbound queue, or dropped as an overrun (R36, R45). -/
def State.deliver (s : State) (f : Assembly) : State :=
  if s.peers.queue.length < 4 then
    { s with peers := { s.peers with queue := s.peers.queue ++ [⟨f.kind, f.sender, f.body, f.capture⟩] } }
  else s.mapLink (fun c => { c with overruns := c.overruns.increase })

/-- A frame in assembly that is dropped is counted as truncated (R33). -/
def State.dropTruncated (s : State) : State :=
  match s.trunk.assembler with
  | .assembling _ => s.mapLink (fun c => { c with truncated := c.truncated.increase })
  | .noFrame => s
  | .discarding => s

/-- A head character (R33). -/
def State.headCharacter (s : State) (data : Byte) (capture : Time) : State :=
  let s := s.dropTruncated
  match FrameKind.ofCode (data.toNat % 16) with
  | some k => s.mapTrunk (fun t => { t with
      assembler := .assembling ⟨k, BitVec.ofNat 4 (data.toNat / 16), [], crcByte 0xFF data, capture⟩ })
  | none =>
    (s.mapLink (fun c => { c with truncated := c.truncated.increase })).mapTrunk
      (fun t => { t with assembler := .discarding })

/-- The check character of a frame: complete, or a check failure (R34). -/
def State.checkCharacter (s : State) (f : Assembly) (data : Byte) : State :=
  let s := s.mapTrunk (fun t => { t with assembler := .noFrame })
  if data = f.check then (if s.trunk.own then s else s.deliver f)
  else s.mapLink (fun c => { c with checkFailures := c.checkFailures.increase })

/-- A body character (R34). -/
def State.bodyCharacter (s : State) (data : Byte) : State :=
  match s.trunk.assembler with
  | .noFrame => s.mapLink (fun c => { c with stray := c.stray.increase })
  | .discarding => s
  | .assembling f =>
    if f.body.length < f.kind.bodyLength then
      s.mapTrunk (fun t => { t with
        assembler := .assembling { f with body := f.body ++ [data], check := crcByte f.check data } })
    else s.checkCharacter f data

/-- The assembler is told of a framing error (R33). -/
def Assembler.framingError : Assembler → Assembler
  | .assembling _ => .noFrame
  | .noFrame => .noFrame
  | .discarding => .discarding

/-! ### Characters (R28, R29) -/

/-- The line's level and run at the end of the 169 samples of a character, the last of which is sample 9 of its stop bit;
it and the seven that follow belong to the character (R30, R31; assumption log 18). -/
def Trunk.endCharacter (t : Trunk) (w : BitVec 169) : Trunk :=
  { t with dominant := !w.getLsbD 168, run := runAfter w 169, tail := 8 }

/-- A character with its stop bit: to the assembler, or a framing error (R28, R29). -/
def State.takeCharacter (s : State) (w : BitVec 169) (capture : Time) : State :=
  if charStop w then
    let s := s.mapTrunk (fun t => { t with receiver := .hunting })
    if charMarker w then s.headCharacter (charData w) capture else s.bodyCharacter (charData w)
  else
    (s.mapLink (fun c => { c with framingErrors := c.framingErrors.increase })).mapTrunk
      (fun t => { t with receiver := .waitRecessive, assembler := t.assembler.framingError })

/-- The receiver has taken one more character of this station's frame, at sample 9 of its stop bit; the attempt's
position stands at that sample, the first driven sample being position 0 (R37, R38; assumption log 20). -/
def TxRun.taken (r : TxRun) : TxRun := { r with position := 176 * r.chars + 168, chars := r.chars + 1 }

/-- This station's frame has completed with its own flag set: it was sent (R38, R41; assumption log 21). -/
def State.ownCharacter (s : State) : State :=
  match s.trunk.tx with
  | .sending f run =>
    if s.trunk.own then
      if f.characters ≤ run.chars + 1 then
        (s.mapTrunk (fun t => { t with tx := .idle, own := false })).reportSent f.kind
      else s.mapTrunk (fun t => { t with tx := .sending f run.taken })
    else s
  | .idle => s
  | .handed _ _ _ => s

/-! ### Edges and line states (R28 to R31) -/

/-- The receiver at a falling edge: outside a character it starts one, unless it is off (R28; assumption log 36). -/
def Receiver.edge (now : Time) : Receiver → Receiver
  | .hunting => .inChar 1 now
  | .waitRecessive => .inChar 1 now
  | .off => .off
  | .inChar n c => .inChar n c

/-- The transmitter at a dominant sample: a hand-over not yet begun has been overtaken (R37). -/
def Transmitter.edge : Transmitter → Transmitter
  | .handed f _ b => .handed f true b
  | .idle => .idle
  | .sending f r => .sending f r

/-- A dominant sample in IDLE makes the line BUSY (R30). -/
def LineState.edge : LineState → LineState
  | .idle => .busy
  | .busy => .busy
  | .fault => .fault

/-- A trunk sample reads dominant after a recessive one (R28, R30, R31, R37). -/
def Trunk.fallingEdge (t : Trunk) (now : Time) : Trunk :=
  { t with
    dominant := true, run := 1, idleTimer := 0, tail := 0, line := t.line.edge, receiver := t.receiver.edge now,
    tx := t.tx.edge }

/-- The start edge was a glitch: the receiver hunts again (R28, R30). -/
def Trunk.dropGlitch (t : Trunk) : Trunk := { t with dominant := false, run := 0, idleTimer := 0, receiver := .hunting }

/-- The receiver at a recessive sample: its wait after a framing error or a drive fault ends (R29, R40). -/
def Receiver.rise : Receiver → Receiver
  | .waitRecessive => .hunting
  | .hunting => .hunting
  | .off => .off
  | .inChar n c => .inChar n c

/-- The first recessive sample after dominant ones, or of the receiver's wait: the dominant run ends, a waiting receiver
hunts again, and the idle timer counts the sample where it lies outside a character (R29, R30, R31, R40; assumption logs
17, 18). -/
def Trunk.rise (t : Trunk) : Trunk :=
  { t with
    dominant := false, run := 0, receiver := t.receiver.rise
    idleTimer := if t.tail = 0 then max t.idleTimer 1 else t.idleTimer }

/-- The receiver at the moment the line becomes IDLE: it begins to hunt, once loading has ended (R26, R29). -/
def Receiver.lineIdle (running : Bool) : Receiver → Receiver
  | .off => if running then .hunting else .off
  | .waitRecessive => .hunting
  | .hunting => .hunting
  | .inChar n c => .inChar n c

/-- The line becomes IDLE (R30, R31), and the assembler and the receiver are told (R26, R33). -/
def State.lineBecomesIdle (s : State) : State :=
  s.dropTruncated.mapTrunk (fun t => { t with
    line := .idle, idleTimer := 176, run := 0, dominant := false, tail := 0, assembler := .noFrame,
    receiver := t.receiver.lineIdle s.isRunning })

/-- The line becomes FAULT (R31), with a dominant sample (R37). -/
def Trunk.lineFault (t : Trunk) : Trunk :=
  { t with line := .fault, idleTimer := 0, run := 352, dominant := true, faultSeen := true, tx := t.tx.edge }

/-! ### The transmitter (R37 to R41) -/

/-- The first sample boundary after a hand-over: the attempt begins, or the hand-over is cancelled (R37, R66). -/
def State.startSending (s : State) : State :=
  match s.trunk.tx with
  | .handed f edgeSeen _ =>
    if edgeSeen then (s.mapTrunk (fun t => { t with tx := .idle })).returned f.kind false
    else
      (s.mapTrunk (fun t => { t with tx := .sending f ⟨0, 0, s.now, s.timeClass, s.now⟩, own := true })).reportBegun
        f.kind s.now
  | .idle => s
  | .sending _ _ => s

/-- An arbitration loss; in a body or check character it is also a station conflict (R39, R49). -/
def State.loseArbitration (s : State) : State :=
  match s.trunk.tx with
  | .sending f run =>
    let s := s.mapTrunk (fun t => { t with tx := .idle, own := false })
    let s := s.mapLink (fun c => { c with losses := c.losses.increase })
    let s := if 1 ≤ run.chars then
        (s.mapLink (fun c => { c with conflicts := c.conflicts.increase })).raiseConflict
      else s
    s.returned f.kind true
  | .idle => s
  | .handed _ _ _ => s

/-- A drive fault: the frame and the character in progress are discarded, and the line is released from the next sample
(R40). DESIGN CHOICE (assumption log 38): the idle timer and the line state stand until a sample counts or reads
dominant. -/
def State.faultDrive (s : State) : State :=
  match s.trunk.tx with
  | .sending f _ =>
    let s := s.mapTrunk (fun t => { t with
      tx := .idle, own := false, releasing := true, assembler := .noFrame, receiver := .waitRecessive,
      dominant := false, run := 0, tail := 0 })
    (s.mapLink (fun c => { c with driveFaults := c.driveFaults.increase })).returned f.kind true
  | .idle => s
  | .handed _ _ _ => s

/-! ### Reports of a character (R28, R38 to R40) -/

/-- A character is taken at sample 9 of its stop bit (R28). -/
def State.receiveCharacter (s : State) (w : BitVec 169) : State :=
  match s.trunk.receiver with
  | .inChar _ capture => ((s.mapTrunk (fun t => t.endCharacter w)).takeCharacter w capture).ownCharacter
  | .off => s
  | .hunting => s
  | .waitRecessive => s

/-- A start edge turns out to be a glitch: a drive fault where the attempt's own start bit is read recessive, and else
dropped (R28, R38, R40). -/
def State.takeGlitch (s : State) : State := if s.sendsDominant then s.faultDrive else s.mapTrunk Trunk.dropGlitch

/-- A character's samples: each bit of this station's own frame is read back first, and the character is then taken,
unless a drive fault has discarded it (R28, R37 to R40).
DESIGN CHOICE (assumption log 43): after a loss at the stop bit too, that bit is the majority of its samples 7, 8 and 9
(R28), so where sample 8 alone is dominant the character is taken, and no framing error follows as R39 says. -/
def State.readCharacter (s : State) (w : BitVec 169) : State :=
  match s.characterReadBack w with
  | .failed => s.faultDrive
  | .lost => s.loseArbitration.receiveCharacter w
  | .equal => if isGlitch w then s.mapTrunk Trunk.dropGlitch else s.receiveCharacter w

/-! ### The latch (R44) -/

/-- Every link counter changed alike. -/
def LinkCounters.map (c : LinkCounters) (f : LinkCounter → LinkCounter) : LinkCounters :=
  ⟨f c.framingErrors, f c.checkFailures, f c.truncated, f c.stray, f c.losses, f c.driveFaults, f c.overruns,
    f c.conflicts, f c.faultSeconds⟩

/-- The latch at a second boundary event (R44). -/
def Trunk.latch (t : Trunk) : Trunk :=
  let c := if t.faultSeen then { t.counters with faultSeconds := t.counters.faultSeconds.increase } else t.counters
  { t with counters := c.map LinkCounter.latch, faultSeen := decide (t.line = .fault) }

end Sys2Proof.Machine
end

