-- ==== Sys2Proof/Machine/OpsPeers.lean ====
section
/-! DEFINITION. The peer table's operations: taking entries, the filter, the parts of a row and their ageing
(R45 to R62, R202). -/

namespace Sys2Proof.Machine

/-- Changes the peer table. -/
def State.mapPeers (s : State) (f : Peers → Peers) : State := { s with peers := f s.peers }

/-- A stamp can be the time of an onset: its subsecond lies in a second (R202). -/
def Time.inSecond (t : Time) : Bool := decide (t.sub < secondCycles)

/-- More than E seconds have passed since a stamp (R55, R61). -/
def State.pastSpan (s : State) (t : Time) : Bool :=
  decide (((secondCycles * s.profile.E : Nat) : Int) < s.now.diff t)

/-! ### Taking and filtering (R46, R48, R49) -/

/-- The table is free and the oldest entry is of this kind (R46). -/
def State.entryReady (s : State) (k : FrameKind) : Bool :=
  s.isRunning && s.peers.hand.isNone && (match s.peers.queue with
    | [] => false
    | e :: _ => decide (e.kind = k))

/-- What the filter makes of an entry (table of R48). -/
inductive Filtered
  | conflict
  | discard
  | outside
  | applies
  deriving DecidableEq, Repr

/-- An ALERT or an ALERT-RAISE (R48, test 5). -/
def FrameKind.isAlert : FrameKind → Bool
  | .alert => true
  | .alertRaise => true
  | .onset => false
  | .coda => false
  | .beacon => false
  | .heat => false
  | .reply => false
  | .query => false

/-- The filter of R48, its tests in order. -/
def filterEntry (own : Station) (peerSet : BitVec 14) (e : InEntry) : Filtered :=
  if e.sender.toNat = own.val then .conflict
  else if 14 ≤ e.sender.toNat then (if e.kind = .query then .applies else .discard)
  else if peerSet.getLsbD e.sender.toNat then .applies
  else if e.kind.isAlert then .applies
  else .outside

/-- The table takes the oldest entry, filters it, and applies what passes (R46, R48). -/
def State.inbound (s : State) (apply : InEntry → State → State) : State :=
  match s.peers.queue with
  | [] => s
  | e :: rest =>
    let s := s.mapPeers (fun p => { p with queue := rest })
    match filterEntry s.own s.profile.peerSet e with
    | .conflict => (s.mapLink (fun c => { c with conflicts := c.conflicts.increase })).raiseConflict
    | .discard => s
    | .outside => s.mapPeers (fun p => { p with counters := { p.counters with outside := bump16 p.counters.outside } })
    | .applies => apply e s

/-- The row of an entry's sender; the filter lets only stations 0 to 13 reach it. -/
def InEntry.row (e : InEntry) : Station := Fin.ofNat 14 e.sender.toNat

/-- The table keeps the entry in hand while a consumer works on it (R46). -/
def State.hold (s : State) (e : InEntry) : State := s.mapPeers (fun p => { p with hand := some e })

/-- The consumer reports done: the table is free again (R46). -/
def State.release (s : State) : State := s.mapPeers (fun p => { p with hand := none })

/-! ### BEACON (R51 to R54) -/

/-- The offset of a BEACON (R52). -/
def beaconOffset (capture stamp : Time) : Int :=
  if stamp.inSecond then clampInt (-2147483647) 2147483647 (capture.diff stamp) else 0

/-- The time part a BEACON sets (R51 to R53, R202). -/
def beaconPart (e : InEntry) : TimePart :=
  let stamp := stampAt e.body 0
  let codes := field e.body 7 1
  let flags := field e.body 9 1
  let cls := TimeClass.ofCode (bitsOf codes 0 3)
  { cls := cls
    disturbed := decide (bitsOf flags 0 1 = 1)
    defaultProfile := decide (bitsOf flags 1 1 = 1)
    conflict := decide (bitsOf flags 2 1 = 1)
    stage := Stage.ofCode (bitsOf codes 6 2)
    clockCode := bitsOf codes 3 3
    soc := min (field e.body 8 1) 100
    offset := beaconOffset e.capture stamp
    stale := decide (cls = .t4) || !stamp.inSecond
    age := 0 }

/-- A BEACON is applied, and the clock re-examines (R51, R54). -/
def State.applyBeacon (e : InEntry) (s : State) : State :=
  let row := s.peers.row e.row
  (s.mapPeers (fun p => p.setRow e.row { row with time := some (beaconPart e) })).reexamine

/-! ### ONSET and CODA (R55, R57) -/

/-- The trigger part an ONSET sets (R55, R202). -/
def onsetPart (e : InEntry) : TriggerPart :=
  let codes := field e.body 7 1
  { onset := stampAt e.body 0
    cls := TimeClass.ofCode (bitsOf codes 0 3)
    disturbed := decide (bitsOf codes 3 1 = 1)
    inexact := decide (bitsOf codes 4 1 = 1)
    ratio := field e.body 8 1
    consumed := false
    summary := none
    lapsed := false }

/-- A row's trigger part has this onset time. -/
def Row.hasOnset (r : Row) (t : Time) : Bool :=
  match r.trigger with
  | none => false
  | some p => decide (p.onset = t)

/-- An ONSET is applied: late, repeated, or the new trigger part with its vote request (R55, R121, R202).
DESIGN CHOICE (assumption log 39): one that is both late and a repeat is tested as late first, and counts as late only. -/
def State.applyOnset (e : InEntry) (s : State) : State :=
  let part := onsetPart e
  let row := s.peers.row e.row
  if !part.onset.inSecond || s.pastSpan part.onset then
    s.mapPeers (fun p => { p with counters := { p.counters with late := bump16 p.counters.late } })
  else if row.hasOnset part.onset then
    s.mapPeers (fun p => { p with counters := { p.counters with repeated := bump16 p.counters.repeated } })
  else
    ((s.mapPeers (fun p => p.setRow e.row { row with trigger := some part })).hold e).askCo
      (.vote .peerTable e.row part.onset)

/-- The summary a CODA carries (R57, R202). -/
def codaSummary (e : InEntry) : Summary where
  peak := min (field e.body 7 3) 8388607
  peakOffset := min (field e.body 10 2) 60000
  duration := min (field e.body 12 2) 60000
  reason := EndReason.ofCode (field e.body 14 1)

/-- A CODA is applied: its summary and its peak request, or it is unmatched (R57, R121, R202). -/
def State.applyCoda (e : InEntry) (s : State) : State :=
  let onset := stampAt e.body 0
  let row := s.peers.row e.row
  if onset.inSecond && row.hasOnset onset then
    ((s.mapPeers (fun p => p.setRow e.row { row with
      trigger := row.trigger.map (fun t => { t with summary := some (codaSummary e) }) })).hold e).askCo
      (.peak .peerTable e.row onset (codaSummary e).peak)
  else s.mapPeers (fun p => { p with counters := { p.counters with unmatchedCoda := bump16 p.counters.unmatchedCoda } })

/-! ### HEAT and the alerts (R58, R59) -/

/-- The heat part a HEAT sets (R58, R202). -/
def heatPartOf (e : InEntry) : HeatPart where
  demand := field e.body 0 2
  urgent := min (field e.body 2 2) (field e.body 0 2)
  age := 0

/-- A HEAT is applied (R58). -/
def State.applyHeat (e : InEntry) (s : State) : State :=
  let row := s.peers.row e.row
  s.mapPeers (fun p => p.setRow e.row { row with heat := some (heatPartOf e) })

/-- An ALERT is handed to the coincidence unit (R59, R121). -/
def State.applyAlert (e : InEntry) (s : State) : State := (s.hold e).askCo (.heardAlert e.sender e.body)

/-- An ALERT-RAISE is handed to the coincidence unit (R59, R121). -/
def State.applyRaise (e : InEntry) (s : State) : State := (s.hold e).askCo (.heardRaise e.sender e.body)

/-! ### Ageing (R61, R49) -/

/-- A row ages at a second boundary event (R61): the ages rise, and a trigger part more than E seconds behind is
marked (assumption log 25). -/
def State.ageRow (s : State) (r : Row) : Row where
  time := r.time.map (fun p => { p with age := p.age + 1 })
  trigger := r.trigger.map (fun p => { p with lapsed := p.lapsed || s.pastSpan p.onset })
  heat := r.heat.map (fun p => { p with age := p.age + 1 })

/-- The peer table at a second boundary event: the ages and the station-conflict timer (R49, R61). -/
def State.agePeers (s : State) : State :=
  s.mapPeers (fun p => { p with rows := p.rows.map s.ageRow, conflictTimer := p.conflictTimer - 1 })

/-- A row's time part has reached its age (R61). -/
def Row.timeAged (r : Row) : Bool :=
  match r.time with
  | none => false
  | some p => decide (48 ≤ p.age)

/-- A row's heat part has reached its age (R61). -/
def Row.heatAged (r : Row) : Bool :=
  match r.heat with
  | none => false
  | some p => decide (180 ≤ p.age)

/-- A row's trigger part has been found too old (R61). -/
def Row.triggerAged (r : Row) : Bool :=
  match r.trigger with
  | none => false
  | some p => p.lapsed

end Sys2Proof.Machine
end

