-- ==== Sys2Proof/Machine/OpsDetect.lean ====
section
/-! DEFINITION. The operations of the sample intake and the trigger detector: a set's way from the port to the tests
(R79 to R118). -/

namespace Sys2Proof.Machine

/-- Changes the detector. -/
def State.mapDetector (s : State) (f : Detector → Detector) : State := { s with detector := f s.detector }

/-- Changes the intake. -/
def State.mapIntake (s : State) (f : Intake → Intake) : State := { s with intake := f s.intake }

/-! ### The detector's arithmetic (R95 to R100) -/

/-- A DC estimate after a set with value `x` (R95, step 1). -/
def dcUpdate (m x : Int) : Int := m + (x * 256 - m) / 1024

/-- The deviation of a value from an estimate (R95, step 2). -/
def deviation (m x : Int) : Int := clampInt (-8388607) 8388607 (x - m / 256)

/-- An average after a set with characteristic `c` (R97, R98). -/
def average (a c shift : Nat) : Nat := ((a : Int) + ((c : Int) * 256 - (a : Int)) / (2 ^ shift : Int)).toNat

/-- The effective long-term average (R99). -/
def effectiveL (p : Profile) (L : Nat) : Nat := max L (p.floor * 256)

/-- The on test (R99). -/
def onTest (p : Profile) (S L : Nat) : Bool := decide (p.rOn * effectiveL p L ≤ 16 * S)

/-- The off test (R99). -/
def offTest (p : Profile) (S L : Nat) : Bool := decide (16 * S < p.rOff * effectiveL p L)

/-- The current ratio (R100). -/
def currentRatio (p : Profile) (S L : Nat) : Nat :=
  if effectiveL p L = 0 then 255 else min (16 * S / effectiveL p L) 255

/-- The estimates of the enabled channels after a set (R95). -/
def Detector.updateDc (d : Detector) (p : Profile) (x : Sample) : Detector :=
  { d with
    dcZ := if p.channelZ then dcUpdate d.dcZ x.z else d.dcZ
    dcN := if p.channelN then dcUpdate d.dcN x.n else d.dcN
    dcE := if p.channelE then dcUpdate d.dcE x.e else d.dcE }

/-- The characteristic of a set under these estimates (R96). -/
def Detector.characteristic (d : Detector) (p : Profile) (x : Sample) : Nat :=
  let z := if p.channelZ then (deviation d.dcZ x.z).natAbs else 0
  let n := if p.channelN then (deviation d.dcN x.n).natAbs else 0
  let e := if p.channelE then (deviation d.dcE x.e).natAbs else 0
  max z (max n e)

/-- L moves with a set processed in this state (R98). -/
def DetectorState.movesL : DetectorState → Bool
  | .warmup => true
  | .armed => true
  | .halted => false
  | .triggered => false
  | .holdoff => false

/-- S, L and the ratio after a set with characteristic `c` (R97, R98, R100). -/
def Detector.updateAverages (d : Detector) (p : Profile) (c : Nat) : Detector :=
  let S := average d.S c p.sShort
  let L := if d.state.movesL then average d.L c p.sLong else d.L
  { d with S := S, L := L, ratio := currentRatio p S L }

/-- A set seeds a halted detector (R102). -/
def Detector.seed (d : Detector) (p : Profile) (x : Sample) : Detector :=
  { d with
    state := .warmup
    dcZ := if p.channelZ then x.z * 256 else d.dcZ
    dcN := if p.channelN then x.n * 256 else d.dcN
    dcE := if p.channelE then x.e * 256 else d.dcE
    S := 0
    L := 0
    warmup := 0
    counters := { d.counters with warmups := bump16 d.counters.warmups } }

/-! ### Onset and end (R104 to R112) -/

/-- The trigger record of an onset (R105). -/
def State.newRecord (s : State) (stamp : Time) (inexact : Bool) (c : Nat) : TriggerRecord where
  onset := stamp
  cls := s.timeClass
  disturbed := s.isDisturbed
  inexact := inexact
  ratio := s.detector.ratio
  peak := c
  peakOffset := 0
  duration := 0
  strongReported := false
  reason := .absent

/-- The own row's trigger part of a record (R105). -/
def TriggerRecord.part (r : TriggerRecord) : TriggerPart where
  onset := r.onset
  cls := r.cls
  disturbed := r.disturbed
  inexact := r.inexact
  ratio := r.ratio
  consumed := false
  summary := none
  lapsed := false

/-- The onset set: TRIGGERED, the record, the own row, the requests and the notice (R104 to R106). -/
def State.onset (s : State) (stamp : Time) (inexact : Bool) (c : Nat) : State :=
  let r := s.newRecord stamp inexact c
  let s := s.mapDetector (fun d => { d with
    state := .triggered, record := some r, counters := { d.counters with onsets := bump16 d.counters.onsets } })
  let s := s.mapPeers (fun p => p.setRow s.own { p.row s.own with trigger := some r.part })
  let s := s.request .onset (onsetBody r) (.stamp r.onset) s.now none
  let s := s.askCo (.vote .detector s.own r.onset)
  s.noticeTriggered true

/-- The summary of a record (R112). -/
def TriggerRecord.toSummary (r : TriggerRecord) : Summary := ⟨r.peak, r.peakOffset, r.duration, r.reason⟩

/-- A summary is attached to the own row's trigger part, if that part holds the record's onset (R112). -/
def Row.attach (row : Row) (onset : Time) (x : Summary) : Row :=
  if row.hasOnset onset then { row with trigger := row.trigger.map (fun t => { t with summary := some x }) } else row

/-- Every trigger end: the reason, the summary, the peak request, the CODA request and the heater notice (R112). -/
def State.endTrigger (s : State) (reason : EndReason) : State :=
  match s.detector.record with
  | none => s.noticeTriggered false
  | some r0 =>
    let r := { r0 with reason := reason }
    let s := s.mapDetector (fun d => { d with record := some r })
    let s := s.mapPeers (fun p => p.setRow s.own ((p.row s.own).attach r.onset r.toSummary))
    let s := s.askCo (.peak .detector s.own r.onset r.peak)
    let s := s.request .coda (codaBody r) (.stamp r.onset) s.now none
    s.noticeTriggered false

/-- The state that follows a trigger: HOLDOFF, or ARMED when the holdoff is 0 s (R109, R110). -/
def Detector.afterTrigger (d : Detector) (p : Profile) : Detector :=
  { d with state := if p.holdoff = 0 then .armed else .holdoff, holdoff := 0 }

/-- A normal end (R109). -/
def State.endNormally (s : State) : State := (s.endTrigger .normal).mapDetector (fun d => d.afterTrigger s.profile)

/-- The open event holds an onset of this station and stands at level 1 (R108, R132). -/
def State.strongEvent (s : State) (onset : Time) : Bool :=
  match s.openEvent with
  | none => false
  | some e => e.holds s.own onset && decide (e.level = 1)

/-- The strong test, and its report (R108). -/
def State.strongTest (s : State) : State :=
  match s.detector.record with
  | none => s
  | some r =>
    if !r.strongReported && decide (s.profile.strong ≤ r.peak) && s.strongEvent r.onset then
      (s.mapDetector (fun d => { d with
        record := some { r with strongReported := true },
        counters := { d.counters with strongReports := bump16 d.counters.strongReports } })).noticeStrong r.peak
    else s

/-- The duration and the peak after a set in TRIGGERED (R107, steps 1 and 2). -/
def TriggerRecord.advance (r : TriggerRecord) (c : Nat) : TriggerRecord :=
  let duration := r.duration + 1
  if r.peak < c then { r with duration := duration, peak := c, peakOffset := duration } else { r with duration := duration }

/-- A set in TRIGGERED (R107); the forced end is a step of its own (assumption log 4). -/
def State.trackTrigger (s : State) (c : Nat) : State :=
  let s := s.mapDetector (fun d => { d with record := d.record.map (fun r => r.advance c) })
  let s := s.strongTest
  if offTest s.profile s.detector.S s.detector.L then s.endNormally else s

/-- The action of the detector's state on a set (R94, step 6). -/
def State.actOnSet (s : State) (stamp : Time) (inexact : Bool) (c : Nat) : State :=
  match s.detector.state with
  | .halted => s
  | .warmup => s.mapDetector (fun d => { d with warmup := d.warmup + 1 })
  | .armed => if onTest s.profile s.detector.S s.detector.L then s.onset stamp inexact c else s
  | .triggered => s.trackTrigger c
  | .holdoff => s.mapDetector (fun d => { d with holdoff := d.holdoff + 1 })

/-- A set is processed, whole (R94). -/
def State.processSet (s : State) (x : Delivered) (inexact : Bool) : State :=
  let d := s.detector.updateDc s.profile x.values
  let c := d.characteristic s.profile x.values
  let s := { s with detector := d.updateAverages s.profile c }
  s.actOnSet x.stamp inexact c

/-- The detector is handed a delivered set (R94, R101, R102). -/
def State.handSet (s : State) (x : Delivered) (inexact : Bool) : State :=
  if s.runCondition then
    (match s.detector.state with
     | .halted => s.mapDetector (fun d => d.seed s.profile x.values)
     | .warmup => s
     | .armed => s
     | .triggered => s
     | .holdoff => s).processSet x inexact
  else s

/-- The run condition is lost: HALTED, and a trigger in progress ends by halt (R101, R111). -/
def State.halt (s : State) : State :=
  let halted := fun (s : State) => s.mapDetector (fun d => { d with state := .halted, warmup := 0, holdoff := 0 })
  match s.detector.state with
  | .triggered =>
    (halted (s.endTrigger .halted)).mapDetector
      (fun d => { d with counters := { d.counters with haltedEnds := bump16 d.counters.haltedEnds } })
  | .halted => halted s
  | .warmup => halted s
  | .armed => halted s
  | .holdoff => halted s

/-- A trigger ends by force (R110). -/
def State.endByForce (s : State) : State :=
  (s.endTrigger .forced).mapDetector (fun d =>
    { d.afterTrigger s.profile with
      L := d.S, counters := { d.counters with forcedEnds := bump16 d.counters.forcedEnds } })

/-- The trigger's duration has reached its maximum (R107, R110). -/
def State.durationReached (s : State) : Bool :=
  decide (s.detector.state = .triggered) && (match s.detector.record with
    | none => false
    | some r => decide (s.profile.maxDuration * 100 ≤ r.duration))

/-! ### The sample intake (R80 to R90) -/

/-- The arrival stamp of a set (R80). -/
def State.arrivalStamp (s : State) : Time := s.now.add (-((s.profile.latency * 10 : Nat) : Int))

/-- A set enters the elastic store of depth `n`; a full store loses its oldest entry (R82). -/
def Intake.enter (i : Intake) (n : Nat) (e : SetEntry) : Intake :=
  if i.store.length < n then { i with store := i.store ++ [e] }
  else { i with
    store := i.store.drop 1 ++ [e], counters := { i.counters with slipDrops := bump16 i.counters.slipDrops } }

/-- The intake's state after an arrival (R83, R86). -/
def Intake.afterArrival (i : Intake) (n : Nat) : Intake :=
  match i.state with
  | .priming => if n / 2 ≤ i.store.length then { i with state := .running, empty := 0 } else i
  | .stalled => { i with state := .priming, empty := 0 }
  | .running => i

/-- A set arrives (R79, R80, R82, R83, R86). -/
def State.arrive (s : State) (bits : BitVec 72) : State :=
  let e : SetEntry := ⟨setValues bits, s.arrivalStamp, s.clock.epoch⟩
  s.mapIntake (fun i => { (i.enter s.profile.depth e).afterArrival s.profile.depth with frame := some 72 })

/-- A tick in RUNNING with an entry in the store (R84, R87). -/
def State.deliverOldest (s : State) (e : SetEntry) (rest : List SetEntry) : State :=
  let x : Delivered := ⟨e.values, e.stamp⟩
  (s.mapIntake (fun i => { i with store := rest, last := some x, empty := 0 })).handSet x (decide (e.epoch ≠ s.clock.epoch))

/-- A tick in RUNNING with the store empty: a slip-repeat (R85). -/
def State.repeatLast (s : State) : State :=
  let s := s.mapIntake (fun i => { i with
    empty := i.empty + 1, counters := { i.counters with slipRepeats := bump16 i.counters.slipRepeats } })
  match s.intake.last with
  | none => s
  | some x =>
    let y : Delivered := ⟨x.values, x.stamp.add 100000⟩
    (s.mapIntake (fun i => { i with last := some y })).handSet y true

/-- A tick (R83 to R86, R88). -/
def State.tick (s : State) (point : Time) : State :=
  let s := s.mapIntake (fun i => { i with latestTick := some point })
  match s.intake.state with
  | .priming => s
  | .stalled => s
  | .running =>
    match s.intake.store with
    | e :: rest => s.deliverOldest e rest
    | [] => s.repeatLast

/-- A tick point has fallen and lies later than the latest tick issued (R88, R90). -/
def State.tickDue (s : State) : Option Time :=
  match s.tickPoint with
  | none => none
  | some p => if s.isRunning && laterThanLast p s.intake.latestTick then some p else none

/-- The intake stalls, and the detector loses its run condition (R86, R101). -/
def State.stall (s : State) : State :=
  (s.mapIntake (fun i => { i with state := .stalled, counters := { i.counters with stalls := bump16 i.counters.stalls } })).halt

/-- The port closes: a port frame in progress is abandoned (R81). -/
def State.closePort (s : State) : State := s.mapIntake (fun i => { i with frame := none })

end Sys2Proof.Machine
end

