-- ==== Sys2Proof/Machine/OpsCoin.lean ====
section
/-! DEFINITION. The coincidence unit's operations: votes, joins, declarations, folds, heard alerts, adoption, opening and
closing (chapter 7). -/

namespace Sys2Proof.Machine

/-- Changes the counters of R140. -/
def State.mapCoCounters (s : State) (f : CoCounters → CoCounters) : State :=
  { s with co := { s.co with counters := f s.co.counters } }

/-! ### Trigger parts and members (R120, R124) -/

/-- A trigger part taken into a record, with its station. -/
structure Member where
  station : Station
  part : TriggerPart
  deriving DecidableEq, Repr

/-- The eligible trigger parts that a test lets in, ascending by station (R120, R124, R137). -/
def State.eligibleParts (s : State) (test : Time → Bool) : List Member :=
  stations.filterMap (fun n =>
    match (s.peers.row n).trigger with
    | none => none
    | some p => if p.eligible && test p.onset then some ⟨n, p⟩ else none)

/-- A row's trigger part is consumed (R120). -/
def Row.consume (r : Row) : Row := { r with trigger := r.trigger.map (fun p => { p with consumed := true }) }

/-- The trigger parts of these stations are consumed (R120). -/
def State.consume (s : State) (ns : List Station) : State :=
  s.mapPeers (fun p => ns.foldl (fun p n => p.setRow n (p.row n).consume) p)

/-- The sum of the members' weights (R124). -/
def weightOf (ms : List Member) : Nat := (ms.map (fun m => m.part.cls.weight)).sum

/-- A peak folded into a record's peak (R133). -/
def foldPeak : Option Nat → Nat → Option Nat
  | none, x => some x
  | some p, x => some (max p x)

/-- The peak of a part's summary, folded in where it carries one (R123, R133). -/
def foldSummary (peak : Option Nat) (p : TriggerPart) : Option Nat :=
  match p.summary with
  | none => peak
  | some x => foldPeak peak x.peak

/-- A set with one more station (R128). -/
def addStation (x : BitVec 14) (n : Station) : BitVec 14 := x ||| BitVec.twoPow 14 n.val

/-- A record takes a part: contributor, member onset and summary peak; its weight changes apart (R123, R127, R137). -/
def Event.take (e : Event) (m : Member) : Event :=
  { e with
    contributors := addStation e.contributors m.station
    members := e.members.set m.station.val (some m.part.onset) m.station.isLt
    peak := foldSummary e.peak m.part }

/-- A record takes several parts. -/
def Event.takeAll (e : Event) (ms : List Member) : Event := ms.foldl Event.take e

/-- A record's weight increased, saturating (R128). -/
def Event.addWeight (e : Event) (w : Nat) : Event := { e with weight := min (e.weight + w) 255 }

/-! ### Choosing a record (R125, R134) -/

/-- The record whose origin lies nearest to a stamp among those within W of it; of two equally near, the newer
(R125, R134). -/
def nearestRecord (p : Profile) (t : Time) : List Event → Option Event
  | [] => none
  | e :: older =>
    if withinW p e.origin t then
      match nearestRecord p t older with
      | some x => if (x.origin.diff t).natAbs < (e.origin.diff t).natAbs then some x else some e
      | none => some e
    else nearestRecord p t older

/-- The record a stamp matches (R125, R134). -/
def State.matching (s : State) (t : Time) : Option Event := nearestRecord s.profile t s.co.events

/-- The member with the earliest onset; of two equal ones, the lower station (R125). -/
def originOf : List Member → Option Member
  | [] => none
  | m :: rest =>
    match originOf rest with
    | none => some m
    | some x => if x.part.onset.diff m.part.onset < 0 then some x else some m

/-! ### Opening and closing (R129 to R131) -/

/-- A record's open flag is cleared and the alert unit is told *closed* (R131). -/
def State.closeRecord (s : State) (serial : BitVec 8) : State :=
  (s.updateEvent serial (fun e => { e with isOpen := false })).alertClosed serial

/-- The open event, if any, closes by replacement (R130, R131). -/
def State.closeOpen (s : State) : State :=
  match s.openEvent with
  | none => s
  | some e => s.closeRecord e.serial

/-- The oldest of eight records is removed, and the alert unit is told (R129, R150). -/
def State.removeOldest (s : State) : State :=
  if s.co.events.length < 8 then s
  else
    match s.co.events.getLast? with
    | none => s
    | some e => ({ s with co := { s.co with events := s.co.events.dropLast } }).clearDeferenceOf e.serial

/-- A record enters the list at its newest end, and the serial counter moves on (R126, R129, R136). -/
def State.enterRecord (s : State) (e : Event) : State :=
  let s := s.removeOldest
  { s with co := { s.co with events := e :: s.co.events, serial := s.co.serial + 1 } }

/-- After an opening: the annunciator and the heater controller, unless an event was open just before (R130, R154). -/
def State.tellOpened (s : State) (wasOpen : Bool) : State :=
  if wasOpen then s else s.startAnnunciator.noticeEvent true

/-! ### Votes (R122 to R127) -/

/-- The anchor's trigger part, if the checks of R122 pass. -/
def State.anchorPart (s : State) (n : Station) (onset : Time) : Option TriggerPart :=
  match (s.peers.row n).trigger with
  | none => none
  | some p => if decide (p.onset = onset) && p.eligible then some p else none

/-- The anchor joins the open event (R123). -/
def State.join (s : State) (serial : BitVec 8) (m : Member) : State :=
  let s := s.consume [m.station]
  let s := s.updateEvent serial (fun e => (e.take m).addWeight m.part.cls.weight)
  s.mapCoCounters (fun c => { c with joins := bump16 c.joins })

/-- A declaration folds into a record (R127). -/
def State.fold (s : State) (serial : BitVec 8) (ms : List Member) : State :=
  let s := s.consume (ms.map (fun m => m.station))
  let s := s.updateEvent serial (fun e => (e.takeAll ms).addWeight (weightOf ms))
  s.mapCoCounters (fun c => { c with folds := bump16 c.folds })

/-- A record with no members yet (R126, R136). -/
def State.newEvent (s : State) (origin : Time) (station : Station) (level weight : Nat) (contributors : BitVec 14)
    (adopted : Bool) : Event where
  serial := s.co.serial
  origin := origin
  originStation := station
  level := level
  weight := weight
  contributors := contributors
  members := Vector.replicate 14 none
  adopted := adopted
  isOpen := true
  declaredAt := s.now
  alertOutcome := .none
  raiseOutcome := .none
  peak := none

/-- A declaration that does not fold: closing, consuming, the new record, the alert unit and the heater controller
(R126, R130). -/
def State.declare (s : State) (origin : Member) (ms : List Member) : State :=
  let wasOpen := s.openEvent.isSome
  let s := s.closeOpen
  let s := s.consume (ms.map (fun m => m.station))
  let serial := s.co.serial
  let e := (s.newEvent origin.part.onset origin.station 1 (min (weightOf ms) 255) 0 false).takeAll ms
  let s := s.enterRecord e
  let s := s.mapCoCounters (fun c => { c with declarations := bump16 c.declarations })
  let s := s.startDeference serial
  s.tellOpened wasOpen

/-- A vote on a candidate set (R124, R125). -/
def State.vote (s : State) (onset : Time) : State :=
  let ms := s.eligibleParts (fun t => withinW s.profile t onset)
  if s.profile.V ≤ weightOf ms then
    match originOf ms with
    | none => s
    | some origin =>
      match s.matching origin.part.onset with
      | some e => s.fold e.serial ms
      | none => s.declare origin ms
  else s

/-- A vote request (R122 to R124). -/
def State.takeVote (s : State) (n : Station) (onset : Time) : State :=
  match s.anchorPart n onset with
  | none => s.mapCoCounters (fun c => { c with dropped := bump16 c.dropped })
  | some p =>
    match s.openEvent with
    | none => s.vote onset
    | some e => if inSpan s.profile e.origin onset then s.join e.serial ⟨n, p⟩ else s.vote onset

/-! ### Heard frames (R134 to R138, R202) -/

/-- The contents of a heard ALERT or ALERT-RAISE (R201). The level, contributors and weight are those of an ALERT, the
peak that of an ALERT-RAISE. -/
structure Heard where
  origin : Time
  station : Nat
  level : Nat
  contributors : BitVec 14
  weight : Nat
  peak : Nat

/-- Reads a heard frame's body (R201, R202). -/
def readHeard (body : List Byte) : Heard where
  origin := stampAt body 0
  station := bitsOf (field body 7 1) 0 4
  level := bitsOf (field body 7 1) 4 2
  contributors := BitVec.ofNat 14 (field body 8 2)
  weight := field body 10 1
  peak := min (field body 8 3) 8388607

/-- The tests that both kinds share (R134). -/
def Heard.badOrigin (h : Heard) : Bool := decide (13 < h.station) || !h.origin.inSecond

/-- An ALERT is malformed (R134). -/
def Heard.badAlert (h : Heard) : Bool :=
  h.badOrigin || (decide (h.level ≠ 1) && decide (h.level ≠ 2)) || decide (h.contributors = 0)

/-- Counts a malformed frame (R134). -/
def State.countMalformed (s : State) : State := s.mapCoCounters (fun c => { c with malformed := bump16 c.malformed })

/-- A matched ALERT (R135, R147). -/
def State.matchAlert (s : State) (serial : BitVec 8) (h : Heard) : State :=
  (s.updateEvent serial (fun e => { e with
    level := max e.level h.level
    contributors := e.contributors ||| h.contributors
    weight := max e.weight h.weight })).alertMatched serial

/-- One part is swept into an adopted record (R137). -/
def Event.sweep (heard : BitVec 14) (e : Event) (m : Member) : Event :=
  (e.take m).addWeight (if heard.getLsbD m.station.val then 0 else m.part.cls.weight)

/-- An unmatched ALERT is adopted, and the peer table is swept (R136, R137). -/
def State.adopt (s : State) (h : Heard) : State :=
  let wasOpen := s.openEvent.isSome
  let s := s.closeOpen
  let serial := s.co.serial
  let s := s.enterRecord (s.newEvent h.origin (Fin.ofNat 14 h.station) h.level h.weight h.contributors true)
  let ms := s.eligibleParts (fun t => inSpan s.profile h.origin t)
  let s := s.consume (ms.map (fun m => m.station))
  let s := s.updateEvent serial (fun e => ms.foldl (Event.sweep h.contributors) e)
  let s := s.mapCoCounters (fun c => { c with adoptions := bump16 c.adoptions })
  s.tellOpened wasOpen

/-- A heard ALERT (R134 to R136). -/
def State.hearAlert (s : State) (body : List Byte) : State :=
  let h := readHeard body
  if h.badAlert then s.countMalformed
  else
    match s.matching h.origin with
    | some e => s.matchAlert e.serial h
    | none => s.adopt h

/-- A heard ALERT-RAISE (R134, R138, R152). -/
def State.hearRaise (s : State) (body : List Byte) : State :=
  let h := readHeard body
  if h.badOrigin then s.countMalformed
  else
    match s.matching h.origin with
    | some e =>
      (s.updateEvent e.serial (fun e => { e with level := 2, peak := foldPeak e.peak h.peak })).raiseMatched e.serial
    | none => s.mapCoCounters (fun c => { c with unmatchedRaises := bump16 c.unmatchedRaises })

/-! ### Peaks, closing and raises (R131, R133, R139) -/

/-- A peak request (R133). -/
def State.takePeak (s : State) (n : Station) (onset : Time) (peak : Nat) : State :=
  match s.openEvent with
  | none => s
  | some e =>
    if e.holds n onset then s.updateEvent e.serial (fun e => { e with peak := foldPeak e.peak peak }) else s

/-- A closing-expiry request: the record closes if it is still open (R131, R156, R182). -/
def State.takeClosing (s : State) (serial : BitVec 8) : State :=
  match s.event serial with
  | none => s
  | some e => if e.isOpen then ((s.closeRecord serial).stopAnnunciator).noticeEvent false else s

/-- A raise-sent report: the record stands at level 2 (R139). -/
def State.takeRaiseSent (s : State) (serial : BitVec 8) : State := s.updateEvent serial (fun e => { e with level := 2 })

/-- The open record whose closing time has come, with no closing request waiting for it (R131). -/
def State.closingDue (s : State) : Option (BitVec 8) :=
  match s.openEvent with
  | none => none
  | some e =>
    if s.now.reached (e.declaredAt.add ((secondCycles * s.profile.E : Nat) : Int)) && !s.co.waiting.contains (.closing e.serial)
    then some e.serial else none

/-- The oldest waiting request (R121). -/
def State.nextRequest (s : State) : Option CoRequest := s.co.waiting.head?

/-- The oldest waiting request is taken (R121). -/
def State.popRequest (s : State) : State := { s with co := { s.co with waiting := s.co.waiting.drop 1 } }

/-- The unit reports done to the block that made a request (R46, R121). -/
def State.doneFor (s : State) : Source → State
  | .peerTable => s.release
  | .detector => s

end Sys2Proof.Machine
end

