-- ==== Sys2Proof/Machine/OpsBattery.lean ====
section
/-! DEFINITION. The battery monitor's operations: the reading and its tests, in the order of R159, and the notices of a
stage change (chapter 9). -/

namespace Sys2Proof.Machine

/-- Changes the battery monitor. -/
def State.mapBattery (s : State) (f : Battery → Battery) : State := { s with battery := f s.battery }

/-! ### Values and charge (R160 to R163) -/

/-- The converter's report: each input held to its range (R160). -/
def heldReadings (r : Readings) : Readings where
  voltage := clampInt 0 32767 r.voltage
  current := clampInt (-32768) 32767 r.current
  batteryTemp := clampInt (-400) 850 r.batteryTemp
  enclosureTemp := clampInt (-400) 850 r.enclosureTemp

/-- A temperature at either end of its range is a sensor fault (R161). -/
def tempFault (t : Int) : Bool := decide (t ≤ -400) || decide (850 ≤ t)

/-- A fault counter at a reading (R161, R172). -/
def countIf (b : Bool) (n : Nat) : Nat := if b then bump16 n else n

/-- Step 1 of a reading: the four values and the fault flags (R159 to R161). -/
def Battery.takeValues (b : Battery) (r : Readings) : Battery :=
  { b with
    voltage := some r.voltage
    current := some r.current
    batteryTemp := some r.batteryTemp
    enclosureTemp := some r.enclosureTemp
    batteryFault := tempFault r.batteryTemp
    enclosureFault := tempFault r.enclosureTemp
    counters := { b.counters with
      batteryFaults := countIf (tempFault r.batteryTemp) b.counters.batteryFaults
      enclosureFaults := countIf (tempFault r.enclosureTemp) b.counters.enclosureFaults } }

/-- The charge after a reading of current `i` (R162). -/
def chargeAfter (q qCap : Nat) (i : Int) : Nat :=
  (clampInt 0 qCap ((q : Int) + (if i ≤ 0 then i else 15 * i / 16))).toNat

/-- The full condition of a reading (R163). -/
def fullCondition (p : Profile) (r : Readings) : Bool :=
  decide ((p.vFull : Int) ≤ r.voltage) && decide (0 ≤ r.current) && decide (r.current ≤ (p.iTaper : Int))

/-- Steps 2 and 3 of a reading: Q and the full count (R162, R163). The resync itself is a step of its own
(assumption log 4, 26). -/
def Battery.count (b : Battery) (p : Profile) (r : Readings) : Battery :=
  { b with
    Q := chargeAfter b.Q p.qCap r.current
    full := if fullCondition p r then b.full + 1 else 0 }

/-! ### Stage tests (R164 to R168) -/

/-- The stage after the SoC test (table of R164). -/
def socTest (stage : Stage) (soc : Nat) : Stage :=
  match stage with
  | .normal => if soc < 40 then .conserve else .normal
  | .conserve => if 45 ≤ soc then .normal else if soc < 20 then .reserve else .conserve
  | .reserve => if 25 ≤ soc then .conserve else .reserve
  | .shed => .shed

/-- CHGEN is set at a reading (R168). -/
def State.setCharge (s : State) : State := s.mapBattery (fun b => { b with chgen := s.chargeAllowed })

/-- The stage becomes another: it is counted, CHGEN follows, and the heater controller is told (R164, R168, R169, R172,
R181). -/
def State.changeStage (s : State) (stage : Stage) : State :=
  (s.mapBattery (fun b => { b with
    stage := stage, counters := { b.counters with stageChanges := bump16 b.counters.stageChanges } })).setCharge.allocate

/-- The SoC test, with the outputs and the notice that follow it (R164, R168, R169). -/
def State.applySocTest (s : State) : State :=
  let stage := socTest s.battery.stage s.soc
  if stage = s.battery.stage then s.setCharge else s.changeStage stage

/-- The low-voltage count at a reading outside SHED (R165). -/
def lowCount (p : Profile) (voltage : Option Int) (n : Nat) : Nat :=
  match voltage with
  | none => n
  | some v => if v < (p.vShed : Int) then n + 1 else 0

/-- The recovery count at a reading in SHED (R166). -/
def recoveryCount (p : Profile) (voltage : Option Int) (n : Nat) : Nat :=
  match voltage with
  | none => n
  | some v => if (p.vShed : Int) + 500 ≤ v then n + 1 else 0

/-- Steps 4 to 6 of a reading (R159, R164 to R169). Entry to SHED and exit from it are steps of their own, taken at once
when their counts are reached (assumption log 4). -/
def State.stageTests (s : State) : State :=
  let s := s.mapBattery (fun b => { b with testsDue := false })
  match s.battery.stage with
  | .shed =>
    let n := recoveryCount s.profile s.battery.voltage s.battery.recovery
    let s := s.mapBattery (fun b => { b with recovery := n })
    if 60 ≤ n then s else s.setCharge
  | .normal =>
    let n := lowCount s.profile s.battery.voltage s.battery.low
    let s := s.mapBattery (fun b => { b with low := n })
    if 10 ≤ n then s else s.applySocTest
  | .conserve =>
    let n := lowCount s.profile s.battery.voltage s.battery.low
    let s := s.mapBattery (fun b => { b with low := n })
    if 10 ≤ n then s else s.applySocTest
  | .reserve =>
    let n := lowCount s.profile s.battery.voltage s.battery.low
    let s := s.mapBattery (fun b => { b with low := n })
    if 10 ≤ n then s else s.applySocTest

/-- A reading (R159). When it brings the full count to 600 the resync comes before the stage tests
(assumption log 26). -/
def State.takeReading (s : State) (inputs : Readings) : State :=
  let r := heldReadings inputs
  let s := s.mapBattery (fun b => (b.takeValues r).count s.profile r)
  if 600 ≤ s.battery.full then s.mapBattery (fun b => { b with testsDue := true }) else s.stageTests

/-! ### Resync, entry and exit (R163, R165, R166) -/

/-- The full resync; the reading goes on with its stage tests (R163, R159). -/
def State.resync (s : State) : State :=
  let s := s.mapBattery (fun b => { b with
    Q := s.profile.qCap, learned := true, full := 0,
    counters := { b.counters with fullResyncs := bump16 b.counters.fullResyncs } })
  if s.battery.testsDue then s.stageTests else s

/-- Entry to SHED: the resync, the counts, LOADOFF, CHGEN, the port, the detector and the heater controller
(R165, R167, R168, R169, R81, R101, R181). -/
def State.enterShed (s : State) : State :=
  let s := s.mapBattery (fun b => { b with
    Q := min b.Q (s.profile.qCap / 10), low := 0, recovery := 0, stage := .shed, loadoff := true, chgen := false,
    counters := { b.counters with
      shedEntries := bump16 b.counters.shedEntries, stageChanges := bump16 b.counters.stageChanges } })
  s.closePort.halt.allocate

/-- Exit from SHED to RESERVE (R166 to R169, R181). -/
def State.leaveShed (s : State) : State :=
  (s.mapBattery (fun b => { b with recovery := 0, loadoff := false })).changeStage .reserve

end Sys2Proof.Machine
end

