-- ==== Sys2Proof/Machine/OpsStart.lean ====
section
/-! DEFINITION. The start-up block's operations: resets, release, the profile read, the end of loading, the hatch filter
(R25, R173, R188 to R195). -/

namespace Sys2Proof.Machine

/-- Changes the loader. -/
def State.mapLoader (s : State) (f : Loader → Loader) : State := { s with loader := f s.loader }

/-! ### Resets (R25, R173, R188) -/

/-- A power-on reset: every block's power-on values; the outside of the part stands (R25, R173). -/
def State.powerOn (s : State) : State :=
  { State.reset with pins := s.pins, free := s.free, pending := s.pending }

/-- A pin reset: as a power-on reset, but F, Q and the learned flag keep their values (R25, R173; assumption log 7). -/
def State.resetPin (s : State) : State :=
  { s.powerOn with
    clock := { Clock.reset with F := s.clock.F }
    battery := { Battery.reset with
      Q := s.battery.Q, learned := s.battery.learned, keepQ := s.battery.keepQ || s.isRunning } }

/-- The station number a strap value gives (R188). -/
def strapStation (stn : BitVec 4) : Station := if h : stn.toNat < 14 then ⟨stn.toNat, h⟩ else 13

/-- Reset is released: the straps, the hatch filter, station time and the profile read (R1, R2, R188, R194, R195). -/
def State.releaseReset (s : State) (stn : BitVec 4) (fast hatchOpen : Bool) : State :=
  let s := s.mapLoader (fun l => { l with
    phase := .loading, rawStrap := stn, station := strapStation stn, fast := fast, bus := .waiting 0, attempts := 0,
    anyStop := false, filteredOpen := hatchOpen, stability := 0, disturbedTimer := 0, disturbed := hatchOpen })
  { s with pins := { s.pins with hatch := hatchOpen }, clock := s.clock.refix }

/-! ### The profile read (R189 to R193) -/

/-- The next attempt may start: LOADING, and no wait is left (R189). -/
def State.attemptDue (s : State) : Bool :=
  decide (s.loader.phase = .loading) && (match s.loader.bus with
    | .waiting 0 => true
    | .waiting (_ + 1) => false
    | .idle => false
    | .reading _ => false
    | .aborting _ => false)

/-- The cycles of the attempt in progress, if there is one (R189). -/
def State.attemptCycles (s : State) : Option Nat :=
  if s.loader.phase = .loading then
    match s.loader.bus with
    | .reading n => some n
    | .idle => none
    | .waiting _ => none
    | .aborting _ => none
  else none

/-- An attempt is in progress, and this cycle is the moment of such a result (R189). -/
def State.attemptEnded (s : State) (result : ProfileEnd) : Bool :=
  match s.attemptCycles with
  | some cycles => attemptEndsAt cycles result
  | none => false

/-- The attempt in progress has come to its stop (R189). -/
def State.stopReached (s : State) : Bool := decide (s.attemptCycles = some stopCycles)

/-- The 48 bytes of an attempt whose stop no command of the sender reports: free values (R189; assumption log 45). -/
def State.unreportedBytes (s : State) : Vector Byte 48 :=
  Vector.ofFn (fun k : Fin 48 => Config.unreportedByte s.free k.val)

/-- Q and the stage are fixed at the end of loading, and LOADOFF is deasserted (R167, R173). -/
def State.startBattery (s : State) : State :=
  let q := if s.battery.keepQ then min s.battery.Q s.profile.qCap else s.profile.qCap / 2
  s.mapBattery (fun b => { b with
    Q := q, keepQ := false, stage := stageOfSoc (100 * q / s.profile.qCap), loadoff := false })

/-- The working values that a load gives, with the clamped-field count (R190 to R192). -/
def loadedProfile (outcome : LoadOutcome) (image : Vector Byte 48) : Profile × Nat :=
  match outcome with
  | .valid => drawProfile image
  | .badSum => (Profile.builtIn, 0)
  | .noAnswer => (Profile.builtIn, 0)

/-- Loading ends: RUNNING, the working values, and every block's start (R26, R190 to R193, R25, R173, R186). -/
def State.endLoading (s : State) (outcome : LoadOutcome) : State :=
  let drawn := loadedProfile outcome s.loader.image
  let s := s.mapLoader (fun l => { l with
    phase := .running, bus := .idle, profile := drawn.1, clamped := drawn.2, outcome := outcome,
    attemptsUsed := l.attempts, defaultFlag := decide (outcome ≠ .valid) })
  let s := s.mapClock (fun c => { c with lossStart := some c.time, advanced := 0 })
  let s := if s.trunk.line = .idle then s.mapTrunk (fun t => { t with receiver := .hunting }) else s
  s.startBattery.allocate

/-- An attempt has ended without success: the wait, or after the third the end of loading (R189, R190). -/
def State.nextAttempt (s : State) : State :=
  if 3 ≤ s.loader.attempts then s.endLoading (if s.loader.anyStop then .badSum else .noAnswer)
  else s.mapLoader (fun l => { l with bus := .waiting tickCycles })

/-- The cycles a failed attempt still needs: the rest of its bit period, none where it fails at a period's end, and a
stop condition (R189; assumption log 28). -/
def abortCycles (cycles : Nat) : Nat := (100 - cycles % 100) % 100 + 100

/-- An attempt fails: it finishes its bit period and makes its stop condition (R189). -/
def State.failAttempt (s : State) (cycles : Nat) : State :=
  s.mapLoader (fun l => { l with bus := .aborting (abortCycles cycles) })

/-- A failed attempt ends once its stop condition is complete (R189). -/
def State.finishAbort (s : State) : State :=
  if s.loader.phase = .loading ∧ s.loader.bus = .aborting 0 then s.nextAttempt else s

/-- An attempt ends as the bus showed it; a stop is numbered, for the free bytes of Config
(R189, R190; assumption log 45). -/
def State.endAttempt (s : State) (cycles : Nat) : ProfileEnd → State
  | .stopped bytes =>
    let s := { s.mapLoader (fun l => { l with image := bytes, anyStop := true }) with free := s.free + 1 }
    if profileValid bytes then s.endLoading .valid else s.nextAttempt
  | .notAcknowledged _ => s.failAttempt cycles
  | .heldLow => s.failAttempt cycles

/-! ### The hatch (R194, R195) -/

/-- The HATCH input takes a level; agreement with the filtered state clears the stability count (R194). -/
def State.setHatch (s : State) (v : Bool) : State :=
  let s := { s with pins := { s.pins with hatch := v } }
  s.mapLoader (fun l => { l with stability := if v = l.filteredOpen then 0 else l.stability })

/-- The filtered state is due to follow the input (R194). -/
def State.hatchDue (s : State) : Bool :=
  s.isReleased && decide (s.pins.hatch ≠ s.loader.filteredOpen) && decide (500000 ≤ s.loader.stability)

/-- The filtered state takes the input's level (R194, R195). -/
def Loader.followHatch (l : Loader) (v : Bool) : Loader :=
  if v then { l with filteredOpen := true, stability := 0, disturbedTimer := 0, disturbed := true,
                     openings := bump16 l.openings }
  else { l with filteredOpen := false, stability := 0, disturbedTimer := 120 }

/-- The disturbed timer has run out with the hatch closed (R195). -/
def Loader.disturbedOver (l : Loader) : Bool := l.disturbed && !l.filteredOpen && decide (l.disturbedTimer = 0)

end Sys2Proof.Machine
end

