-- ==== Sys2Proof/Machine/OpsService.lean ====
section
/-! DEFINITION. The service responder: a QUERY's test, the pages of every topic, and the REPLY request
(R196 to R199, R204). -/

namespace Sys2Proof.Machine

/-! ### Bytes -/

/-- One byte of a number. -/
def byteOf (n : Nat) : Byte := BitVec.ofNat 8 n

/-- Free bytes for a field whose value is not stated, at a data byte of this REPLY (assumption log 30). -/
def State.freeBytes (s : State) (offset n : Nat) : List Byte :=
  (List.range n).map (fun k => Config.unstatedByte s.free (offset + k))

/-- The free bits of a byte whose other bits no layout assigns (R200). -/
def State.freeBits (s : State) (offset : Nat) (mask : Byte) : List Byte := [Config.unstatedByte s.free offset &&& mask]

/-- Sixteen data bytes: a page's fields, and 0 beyond the last (R204). -/
def padData (bytes : List Byte) : List Byte := (bytes ++ List.replicate 16 0).take 16

/-- Two-byte counters in a row. -/
def words (xs : List Nat) : List Byte := xs.flatMap (leBytes 2)

/-! ### Topic 0: identity -/

/-- Topic 0 (R204). -/
def State.topic0 (s : State) (page : Nat) : List Byte :=
  let l := s.loader
  let c := s.service.counters
  if page = 0 then
    [byteOf (l.station.val + 16 * l.rawStrap.toNat),
     byteOf (bit l.fast + 2 * l.outcome.code + 8 * l.attemptsUsed + 32 * bit l.defaultFlag + 64 * bit s.peers.conflict
       + 128 * bit s.isDisturbed),
     byteOf l.clamped,
     byteOf (l.disturbedTimer + 128 * bit l.filteredOpen)]
    ++ words [l.openings, c.taken, c.refused, c.busyDrops, c.sent, c.expired]
  else (l.image.toList.drop (16 * (page - 1))).take 16

/-! ### Topics 1 and 2: the clock -/

/-- Topic 1 (R204). -/
def State.topic1 (s : State) (page : Nat) : List Byte :=
  let c := s.clock
  if page = 0 then
    [byteOf (c.state.code + 16 * c.timeClass.code)] ++ leInt 2 c.F ++ leInt 1 c.P ++ leBytes 2 c.age
    ++ [byteOf c.returnCount] ++ leBytes 2 c.epoch.toNat ++ stampBytes c.time
  else words [c.counters.outliers, c.counters.badRecords, c.counters.missingRecords, c.counters.corrections,
    c.counters.steps, c.counters.losses]

/-- Topic 2 (R23, R204). -/
def State.topic2 (s : State) (index : Nat) : List Byte :=
  match s.clock.log[index]? with
  | some e => stampBytes e.time ++ leInt 4 e.size ++ [byteOf e.cause.code]
  | none => []

/-! ### Topic 3: detector and intake -/

/-- The flags byte of a trigger (R204, topic 3 page 1); bit 5 is the strong-reported flag, or the consumed flag in
topic 5. -/
def triggerFlags (cls : TimeClass) (disturbed inexact bit5 : Bool) (reason : Nat) : Byte :=
  byteOf (cls.code + 8 * bit disturbed + 16 * bit inexact + 32 * bit bit5 + 64 * reason)

/-- The warm-up or holdoff count, whichever the state uses (R116). -/
def Detector.reportedCount (d : Detector) : Nat :=
  match d.state with
  | .warmup => d.warmup
  | .holdoff => d.holdoff
  | .halted => 0
  | .armed => 0
  | .triggered => 0

/-- Topic 3 (R116, R92, R204). Without a record its page is free (assumption log 30). -/
def State.topic3 (s : State) (page : Nat) : List Byte :=
  let d := s.detector
  let i := s.intake
  if page = 0 then
    [byteOf (d.state.code + 16 * i.state.code)] ++ leBytes 4 d.S ++ leBytes 4 d.L ++ [byteOf d.ratio]
    ++ leBytes 2 d.reportedCount ++ [byteOf i.store.length, byteOf s.profile.depth, byteOf (bit d.record.isSome)]
  else if page = 1 then
    match d.record with
    | some r =>
      [triggerFlags r.cls r.disturbed r.inexact r.strongReported r.reason.code] ++ stampBytes r.onset ++ leBytes 1 r.ratio
      ++ leBytes 3 r.peak ++ leBytes 2 r.peakOffset ++ leBytes 2 r.duration
    | none => s.freeBytes 0 16
  else if page = 2 then
    words [d.counters.onsets, d.counters.forcedEnds, d.counters.haltedEnds, d.counters.strongReports,
      d.counters.onsetNotSent, d.counters.codaNotSent, d.counters.warmups]
  else words [i.counters.incomplete, i.counters.slipDrops, i.counters.slipRepeats, i.counters.stalls]

/-! ### Topic 4: events and alerts -/

/-- Page 0 of an event record (R204). -/
def State.eventPage (s : State) (e : Event) : List Byte :=
  [byteOf (2 * bit e.adopted + 4 * bit e.isOpen + 8 * bit e.peak.isSome + 16 * e.originStation.val),
   byteOf (e.alertOutcome.code + 8 * e.raiseOutcome.code + 64 * bit (decide (e.level = 2))),
   byteOf e.serial.toNat, byteOf e.weight]
  ++ setBytes e.contributors ++ stampBytes e.origin
  ++ (match e.peak with
      | some p => leBytes 3 p
      | none => s.freeBytes 13 3)

/-- One member onset (R204). -/
def memberBytes (m : Station × Time) : List Byte := byteOf m.1.val :: stampBytes m.2

/-- The two member onsets of pages 1 to 7 (R204). -/
def Event.memberPage (e : Event) (page : Nat) : List Byte := ((e.memberList.drop (2 * (page - 1))).take 2).flatMap memberBytes

/-- The alert unit's page (R204, topic 4 page 11); without a timer its serial and expiry are 0 (R158). -/
def State.alertPage (s : State) : List Byte :=
  let a := s.alerts
  [byteOf (a.annState.code + 4 * bit (decide (a.level = 2)) + 8 * bit a.deference.isSome), byteOf a.slot]
  ++ (match a.deference with
      | some t => byteOf t.serial.toNat :: stampBytes t.expiry
      | none => [])

/-- Topic 4 (R129, R140, R157, R204).
DESIGN CHOICE (assumption log 40): page 8 gives the declared-at time and the member count of the record at the index. -/
def State.topic4 (s : State) (index page : Nat) : List Byte :=
  let e? := s.co.events[index]?
  if page = 0 then
    match e? with
    | some e => s.eventPage e
    | none => [1]
  else if page < 8 then
    match e? with
    | some e => e.memberPage page
    | none => []
  else if page = 8 then
    (match e? with
     | some e => stampBytes e.declaredAt ++ [byteOf e.memberList.length]
     | none => List.replicate 8 0)
    ++ [byteOf s.co.serial.toNat, byteOf (bit s.openEvent.isSome)]
  else if page = 9 then
    let c := s.co.counters
    words [c.declarations, c.adoptions, c.joins, c.folds, c.dropped, c.malformed, c.unmatchedRaises]
  else if page = 10 then
    let c := s.alerts.counters
    words [c.alertsSent, c.alertsYielded, c.alertsLapsed, c.raisesSent, c.raisesYielded, c.raisesLapsed, c.declinedStrong]
  else s.alertPage

/-! ### Topic 5: a peer row -/

/-- The summary of a row, if it has one. -/
def Row.summary (r : Row) : Option Summary :=
  match r.trigger with
  | none => none
  | some p => p.summary

/-- Page 0 of a peer row (R204). -/
def State.rowPage (s : State) (r : Row) : List Byte :=
  let time := match r.time with
    | some p =>
      [byteOf (p.cls.code + 8 * p.clockCode + 64 * p.stage.code), byteOf p.soc,
       byteOf (bit p.disturbed + 2 * bit p.defaultProfile + 4 * bit p.conflict + 8 * bit p.stale)]
      ++ leInt 4 p.offset ++ [byteOf p.age]
    | none => s.freeBytes 1 2 ++ s.freeBits 3 0x0F ++ s.freeBytes 4 5
  let heat := match r.heat with
    | some p => leBytes 2 p.demand ++ leBytes 2 p.urgent ++ [byteOf p.age]
    | none => s.freeBytes 9 5
  [byteOf (bit r.time.isSome + 2 * bit r.trigger.isSome + 4 * bit r.heat.isSome + 8 * bit r.summary.isSome)] ++ time ++ heat

/-- Page 1 of a peer row (R204). -/
def State.rowTriggerPage (s : State) (r : Row) : List Byte :=
  match r.trigger with
  | some p =>
    match p.summary with
    | some x =>
      [triggerFlags p.cls p.disturbed p.inexact p.consumed x.reason.code] ++ stampBytes p.onset ++ leBytes 1 p.ratio
      ++ leBytes 3 x.peak ++ leBytes 2 x.peakOffset ++ leBytes 2 x.duration
    | none => [triggerFlags p.cls p.disturbed p.inexact p.consumed 0] ++ stampBytes p.onset ++ leBytes 1 p.ratio
  | none => s.freeBits 0 0x3F ++ s.freeBytes 1 8

/-- Topic 5 (R50, R204). -/
def State.topic5 (s : State) (index page : Nat) : List Byte :=
  let r := s.peers.row (Fin.ofNat 14 index)
  if page = 0 then s.rowPage r else s.rowTriggerPage r

/-! ### Topic 6: battery and heater -/

/-- A reading, or free bytes while there is none. -/
def State.readingBytes (s : State) (offset : Nat) : Option Int → List Byte
  | some x => leInt 2 x
  | none => s.freeBytes offset 2

/-- Topic 6 (R172, R187, R204). -/
def State.topic6 (s : State) (page : Nat) : List Byte :=
  let b := s.battery
  let h := s.heater
  if page = 0 then
    s.readingBytes 0 b.voltage ++ s.readingBytes 2 b.current ++ s.readingBytes 4 b.batteryTemp
    ++ s.readingBytes 6 b.enclosureTemp
    ++ [byteOf (bit b.voltage.isNone + 2 * bit b.current.isNone + 4 * bit b.batteryTemp.isNone
        + 8 * bit b.enclosureTemp.isNone + 16 * bit b.batteryFault + 32 * bit b.enclosureFault + 64 * bit b.learned)]
    ++ leBytes 4 b.Q
    ++ [byteOf s.soc, byteOf (b.stage.code + 4 * bit b.chgen + 8 * bit b.loadoff), byteOf b.low]
  else if page = 1 then
    leBytes 2 b.full ++ [byteOf b.recovery]
    ++ words [b.counters.batteryFaults, b.counters.enclosureFaults, b.counters.fullResyncs, b.counters.shedEntries,
      b.counters.stageChanges]
  else if page = 2 then
    [byteOf h.h0, byteOf h.h1,
     byteOf (bit h.h0Urgent + 2 * bit h.announced.isSome + 4 * h.hold.code + 16 * bit h.triggered + 32 * bit h.eventOpen
       + 64 * bit h.out0 + 128 * bit h.out1)]
    ++ words [h.demand, h.urgent]
    ++ (match h.announced with
        | some n => leBytes 2 n
        | none => s.freeBytes 7 2)
    ++ leBytes 2 h.grant0 ++ [byteOf h.steps0] ++ leBytes 2 h.grant1 ++ [byteOf h.steps1]
  else if page = 3 then leBytes 3 h.U ++ leBytes 3 h.Nh ++ leBytes 2 h.budget ++ leBytes 2 h.G
  else words [h.counters.sent, h.counters.notSent, h.counters.holdsStarted, h.counters.holdsLimited]

/-! ### Topics 7 and 8: link counters and history -/

/-- The nine link counters in the order of R43. -/
def LinkCounters.list (c : LinkCounters) : List LinkCounter :=
  [c.framingErrors, c.checkFailures, c.truncated, c.stray, c.losses, c.driveFaults, c.overruns, c.conflicts,
    c.faultSeconds]

/-- Topic 7 (R44, R62, R204). -/
def State.topic7 (s : State) (page : Nat) : List Byte :=
  let c := s.trunk.counters
  let p := s.peers.counters
  if page = 0 then c.list.map (fun x => byteOf x.lastSecond)
  else if page = 1 then words ((c.list.take 8).map (fun x => x.total))
  else words [c.faultSeconds.total, p.outside, p.late, p.repeated, p.unmatchedCoda]

/-- Topic 8 (R77, R204). A tx capture that is absent leaves its field free (assumption log 30). -/
def State.topic8 (s : State) (index : Nat) : List Byte :=
  match s.sched.history[index]? with
  | some r =>
    [byteOf (r.kind.frame.code + 16 * r.outcome.code + 128 * bit r.capture.isSome), byteOf r.attempts]
    ++ stampBytes r.time
    ++ (match r.capture with
        | some t => stampBytes t
        | none => s.freeBytes 9 7)
  | none => List.replicate 9 0 ++ s.freeBytes 9 7

/-! ### Queries (R196, R197) -/

/-- The page count of a topic (R204). -/
def pageCount : Nat → Nat
  | 0 => 4
  | 1 => 2
  | 2 => 1
  | 3 => 4
  | 4 => 12
  | 5 => 2
  | 6 => 5
  | 7 => 3
  | _ => 1

/-- A topic takes an index (table of R196). -/
def indexAccepted (topic index : Nat) : Bool :=
  match topic with
  | 0 => true
  | 1 => true
  | 2 => decide (index ≤ 3)
  | 3 => true
  | 4 => decide (index ≤ 7)
  | 5 => decide (index ≤ 13)
  | 6 => true
  | 7 => true
  | 8 => decide (index ≤ 7)
  | _ => false

/-- The fields of a topic's page (R204). -/
def State.topicFields (s : State) (topic index page : Nat) : List Byte :=
  match topic with
  | 0 => s.topic0 page
  | 1 => s.topic1 page
  | 2 => s.topic2 index
  | 3 => s.topic3 page
  | 4 => s.topic4 index page
  | 5 => s.topic5 index page
  | 6 => s.topic6 page
  | 7 => s.topic7 page
  | _ => s.topic8 index

/-- The sixteen data bytes that answer a topic and an index byte (R196, R204). -/
def State.replyData (s : State) (topic : Nat) (indexByte : Byte) : List Byte :=
  let index := indexByte.toNat % 16
  let page := indexByte.toNat / 16 % pageCount topic
  padData (s.topicFields topic index page)

/-- The counters when a QUERY is taken (R199). -/
def ServiceCounters.take (c : ServiceCounters) (refused : Bool) : ServiceCounters :=
  { c with taken := bump16 c.taken, refused := if refused then bump16 c.refused else c.refused }

/-- The REPLY request is made, and the responder is PENDING (R196, R197, R69). -/
def State.requestReply (s : State) (topic : Nat) (indexByte : Byte) (data : List Byte) : State :=
  let s := { s with free := s.free + 1, service := { s.service with pendingReply := some (topic, indexByte) } }
  s.request .reply (replyBody topic indexByte data) (.query topic indexByte) s.now (some (s.now.add 50000000))

/-- A QUERY for this station (R196). DEDUCED (assumption log 37): it is counted before its REPLY is formed, so the
identity page counts the QUERY that it answers among those taken (R199). -/
def State.takeQuery (s : State) (topic : Nat) (indexByte : Byte) : State :=
  if s.service.pendingReply.isSome then
    { s with service := { s.service with counters := { s.service.counters with
        busyDrops := bump16 s.service.counters.busyDrops } } }
  else
    let accepted := indexAccepted topic (indexByte.toNat % 16)
    let s := { s with service := { s.service with counters := s.service.counters.take (!accepted) } }
    if accepted then s.requestReply topic indexByte (s.replyData topic indexByte)
    else s.requestReply 15 indexByte (List.replicate 16 0)

/-- A QUERY that has passed the filter (R60, R201). -/
def State.applyQuery (e : InEntry) (s : State) : State :=
  if bitsOf (field e.body 0 1) 0 4 = s.own.val then s.takeQuery (bitsOf (field e.body 0 1) 4 4) (e.body.getD 1 0) else s

end Sys2Proof.Machine
end

