-- ==== Sys2Proof/Machine/Limits.lean ====
section
/-! DEFINITION. The limit steps that the manual takes at once, when a count or a timer has been brought to its limit, and
how every other command waits for them (assumption logs 3 and 4). -/

namespace Sys2Proof.Machine

/-! ### When each limit step is due -/

/-- The third consecutive outlier has been counted (R8). -/
def State.outlierLimitDue (s : State) : Bool := decide (s.clock.state = .locked) && decide (3 ≤ s.clock.outliers)

/-- The third consecutive missing edge has been counted (R9). -/
def State.missingLimitDue (s : State) : Bool := decide (3 ≤ s.clock.missing)

/-- The holdover age has reached 3600 (R16). -/
def State.ageLimitDue (s : State) : Bool :=
  decide (s.clock.state = .holdover) && decide (3600 ≤ s.clock.age) && !s.clock.aged

/-- The station-conflict timer has run out (R49). -/
def State.conflictOver (s : State) : Bool := s.peers.conflict && decide (s.peers.conflictTimer = 0)

/-- The disturbed timer has run out with the hatch closed (R195). -/
def State.disturbedOver (s : State) : Bool := s.loader.disturbedOver

/-- The intake is to stall: the tenth repeat has been delivered, and its handling by the detector is complete, a forced
end included (R85, R86, R94, R107). -/
def State.stallDue (s : State) : Bool :=
  decide (s.intake.state = .running) && decide (10 ≤ s.intake.empty) && !s.durationReached

/-- Warm-up is complete (R103). -/
def State.warmupOver (s : State) : Bool :=
  decide (s.detector.state = .warmup) && decide (2 ^ s.profile.sLong ≤ s.detector.warmup)

/-- Holdoff is complete (R113). -/
def State.holdoffOver (s : State) : Bool :=
  decide (s.detector.state = .holdoff) && decide (s.profile.holdoff * 100 ≤ s.detector.holdoff)

/-- The full count has reached 600 (R163). -/
def State.resyncDue (s : State) : Bool := decide (600 ≤ s.battery.full)

/-- The low-voltage count has reached 10 outside SHED (R165). -/
def State.shedDue (s : State) : Bool := decide (s.battery.stage ≠ .shed) && decide (10 ≤ s.battery.low)

/-- The recovery count has reached 60 in SHED (R166). -/
def State.shedOver (s : State) : Bool := decide (s.battery.stage = .shed) && decide (60 ≤ s.battery.recovery)

/-- A hold with a limit of 0 s has reached it at its start (R183; assumption log 33). -/
def State.holdAtOnce (s : State) : Bool := decide (s.profile.qMax = 0) && s.holdLimitReached

/-! ### What each limit step does -/

/-- OUTLIER_LIMIT: ACQUIRE, with the acquisition edge still to come (R8, R13). -/
def State.outlierLimit (s : State) : State := s.mapClock (fun c => { c.enterAcquire true with outliers := 0 })

/-- HOLDOVER_AGE_LIMIT: class T3, and the candidates are examined again (R16, R18). -/
def State.ageLimit (s : State) : State := (s.mapClock (fun c => { c with aged := true })).reexamine

/-- STATION_CONFLICT_EXPIRY: the flag falls (R49). -/
def State.clearConflict (s : State) : State := s.mapPeers (fun p => { p with conflict := false })

/-- DISTURBED_TIMER_EXPIRY: the station is no longer disturbed (R195). -/
def State.clearDisturbed (s : State) : State := s.mapLoader (fun l => { l with disturbed := false })

/-- TIME_PART_AGE_OUT: the time part becomes absent and the clock is told (R61, R54). -/
def State.dropTimePart (n : Station) (s : State) : State :=
  (s.mapPeers (fun p => p.setRow n { p.row n with time := none })).reexamine

/-- HEAT_PART_AGE_OUT: the heat part becomes absent (R61). -/
def State.dropHeatPart (n : Station) (s : State) : State :=
  s.mapPeers (fun p => p.setRow n { p.row n with heat := none })

/-- TRIGGER_PART_AGE_OUT: the trigger part becomes absent, its summary with it (R61). -/
def State.dropTriggerPart (n : Station) (s : State) : State :=
  s.mapPeers (fun p => p.setRow n { p.row n with trigger := none })

/-- WARMUP_END: ARMED (R103). -/
def State.endWarmup (s : State) : State := s.mapDetector (fun d => { d with state := .armed })

/-- HOLDOFF_END: ARMED (R113). -/
def State.endHoldoff (s : State) : State := s.mapDetector (fun d => { d with state := .armed })

/-! ### The limit steps as one list -/

/-- The limit steps taken at once. -/
inductive Limit
  | outlier | evaluation | refReturn | missing | age
  | conflict | disturbed
  | timePart (row : Station) | heatPart (row : Station) | triggerPart (row : Station)
  | stall | warmup | forced | holdoff
  | resync | shedEntry | shedExit
  | hold
  deriving DecidableEq, Repr

/-- A limit step is due. -/
def Limit.due (s : State) : Limit → Bool
  | .outlier => s.outlierLimitDue
  | .evaluation => s.evaluationDue
  | .refReturn => s.returnDue
  | .missing => s.missingLimitDue
  | .age => s.ageLimitDue
  | .conflict => s.conflictOver
  | .disturbed => s.disturbedOver
  | .timePart n => (s.peers.row n).timeAged
  | .heatPart n => (s.peers.row n).heatAged
  | .triggerPart n => (s.peers.row n).triggerAged
  | .stall => s.stallDue
  | .warmup => s.warmupOver
  | .forced => s.durationReached
  | .holdoff => s.holdoffOver
  | .resync => s.resyncDue
  | .shedEntry => s.shedDue
  | .shedExit => s.shedOver
  | .hold => s.holdAtOnce

/-- What a limit step does. -/
def Limit.effect (s : State) : Limit → State
  | .outlier => s.outlierLimit
  | .evaluation => s.evaluateReference
  | .refReturn => s.returnReference
  | .missing => s.loseReference
  | .age => s.ageLimit
  | .conflict => s.clearConflict
  | .disturbed => s.clearDisturbed
  | .timePart n => s.dropTimePart n
  | .heatPart n => s.dropHeatPart n
  | .triggerPart n => s.dropTriggerPart n
  | .stall => s.stall
  | .warmup => s.endWarmup
  | .forced => s.endByForce
  | .holdoff => s.endHoldoff
  | .resync => s.resync
  | .shedEntry => s.enterShed
  | .shedExit => s.leaveShed
  | .hold => s.limitHold

/-- The command that a limit step is a row of. -/
def Limit.instr : Limit → Instr
  | .outlier => .outlierLimit
  | .evaluation => .referenceEvaluation
  | .refReturn => .referenceReturn
  | .missing => .consecutiveMissingLimit
  | .age => .holdoverAgeLimit
  | .conflict => .stationConflictExpiry
  | .disturbed => .disturbedTimerExpiry
  | .timePart n => .timePartAgeOut n
  | .heatPart n => .heatPartAgeOut n
  | .triggerPart n => .triggerPartAgeOut n
  | .stall => .stall
  | .warmup => .warmupEnd
  | .forced => .forcedEnd
  | .holdoff => .holdoffEnd
  | .resync => .fullResync
  | .shedEntry => .shedEntry
  | .shedExit => .shedExit
  | .hold => .holdLimit

/-- Every limit step, in the order in which the model takes those that are due together (assumption log 5). -/
def limits : List Limit :=
  [.evaluation, .refReturn, .outlier, .missing, .age, .resync, .shedEntry, .shedExit, .conflict, .disturbed]
  ++ stations.map Limit.timePart ++ stations.map Limit.heatPart ++ stations.map Limit.triggerPart
  ++ [.warmup, .forced, .holdoff, .stall, .hold]

/-- The limit step to be taken next, if one is due. -/
def State.nextLimit (s : State) : Option Limit := limits.find? (fun x => x.due s)

/-- No limit step is due. -/
def State.isSettled (s : State) : Bool := s.nextLimit.isNone

/-- Takes up to `n` limit steps. -/
def State.settleFor : Nat → State → State
  | 0, s => s
  | n + 1, s =>
    match s.nextLimit with
    | none => s
    | some x => State.settleFor n (x.effect s)

/-- Takes the limit steps that are due, before anything else (assumption log 4).
There are 57; taking one ends what made it due, and none brings another back, so 64 are enough. -/
def State.settle (s : State) : State := State.settleFor 64 s

/-! ### How a command is carried out (assumption log 3) -/

/-- Carries out a command: the limit steps that are due come first; then the command has its effect where its rule's
conditions hold, and none where they do not. -/
def carryOut (condition : State → Bool) (effect : State → State) (s : State) : Host.Outcome State Fault Refusal :=
  .next (if condition s.settle then effect s.settle else s.settle)

/-- Carries out a limit step: its effect where it is due, and none where it is not. -/
def takeLimit (x : Limit) (s : State) : Host.Outcome State Fault Refusal := .next (if x.due s then x.effect s else s)

end Sys2Proof.Machine
end

