-- ==== Sys2Proof/Machine/Conditions.lean ====
section
/-! DEFINITION. The conditions under which the commands of the part's own fall: schedule points, periods and waiting work
(assumption logs 2, 3, 9). -/

namespace Sys2Proof.Machine

/-! ### Schedule points (R4) -/

/-- The beacon candidate point that has fallen (R73, R75). -/
def State.candidatePoint (s : State) : Option Time :=
  match s.fell (500000 * s.own.val) with
  | none => none
  | some p =>
    if s.isRunning && decide (p.sec.toNat % s.profile.beaconPeriod = 0) && laterThanLast p s.sched.lastCandidate
    then some p else none

/-- The announcement point that has fallen (R177). -/
def State.announcementDue (s : State) : Option Time :=
  match s.fell (250000 + 500000 * s.own.val) with
  | none => none
  | some p =>
    if s.isRunning && decide (p.sec.toNat % 60 = 0) && laterThanLast p s.heater.lastPoint then some p else none

/-- A heater output stands other than R184 gives it. -/
def State.heatersToMove (s : State) : Bool :=
  decide (s.heater.out0 ≠ s.heat0Level) || decide (s.heater.out1 ≠ s.heat1Level)

/-! ### The line (R30, R31, R37) -/

/-- The line is released and no character is in progress (R30, R31). -/
def State.lineQuiet (s : State) : Bool := s.isReleased && !s.trunk.receiver.inside

/-- The idle timer has reached 176 samples (R30). -/
def State.idleReached (s : State) : Bool :=
  s.lineQuiet && decide (s.trunk.line ≠ .idle) && decide (176 ≤ s.trunk.idleTimer)

/-- The dominant run has reached 352 samples (R31). -/
def State.faultReached (s : State) : Bool :=
  s.lineQuiet && decide (s.trunk.line ≠ .fault) && decide (352 ≤ s.trunk.run)

/-- A recessive sample can be reported as the first after dominant ones, or as the first of the receiver's wait (R29 to
R31; assumption log 17). -/
def State.mayRise (s : State) : Bool :=
  s.lineQuiet && (s.trunk.dominant || decide (s.trunk.receiver = .waitRecessive))

/-- The receiver's wait has met a recessive sample: one has passed since the wait began, and the line stands recessive
(R29, R40; assumption log 17). -/
def State.huntDue (s : State) : Bool :=
  s.lineQuiet && decide (s.trunk.receiver = .waitRecessive) && !s.trunk.dominant && !s.trunk.releasing
    && decide (s.trunk.tail < 8)

/-- A sample boundary has passed since a hand-over (R37). -/
def State.startReached (s : State) : Bool :=
  match s.trunk.tx with
  | .handed _ _ boundary => boundary
  | .idle => false
  | .sending _ _ => false

/-! ### Waiting work (R46, R65, R69, R121) -/

/-- The conditions of CHOICE (R65). -/
def State.choiceDue (s : State) : Bool := s.mayChoose && s.sched.slots.chosen.isSome

/-- The slot of a kind with a deadline. -/
def deadlineSlot : DeadlineKind → TxKind
  | .beacon => .beacon
  | .heat => .heat
  | .reply => .reply

/-- A request of this kind has reached its deadline outside the transmitter (R69). -/
def State.deadlineDue (s : State) (k : DeadlineKind) : Bool :=
  s.isRunning && (s.sched.slots.get (deadlineSlot k)).expiring s.now

/-- The command that takes a coincidence request. -/
def CoRequest.instr : CoRequest → Instr
  | .vote _ _ _ => .vote
  | .heardAlert _ _ => .heardAlert
  | .heardRaise _ _ => .heardAlertRaise
  | .peak _ _ _ _ => .peakRequest
  | .closing _ => .closingExpiry
  | .raiseSent _ => .raiseSent

/-- The command that takes an entry of the inbound queue. -/
def FrameKind.instr : FrameKind → Instr
  | .alert => .inboundAlert
  | .alertRaise => .inboundAlertRaise
  | .onset => .inboundOnset
  | .coda => .inboundCoda
  | .beacon => .inboundBeacon
  | .heat => .inboundHeat
  | .reply => .inboundReply
  | .query => .inboundQuery

/-- The command that takes the oldest entry, if the peer table is free (R46). -/
def State.inboundInstr (s : State) : Option Instr :=
  if s.isRunning && s.peers.hand.isNone then s.peers.queue.head?.map (fun e => e.kind.instr) else none

end Sys2Proof.Machine
end

