-- ==== Sys2Proof/Machine/AlertUnit.lean ====
section
/-! DEFINITION. The commands of the alert unit (chapter 8). -/

namespace Sys2Proof.Machine

/-- DEFERENCE_EXPIRY (R144). -/
def execDeferenceExpiry (s : State) : Host.Outcome State Fault Refusal :=
  carryOut (fun s => s.isRunning && s.deferenceReached) State.expireDeference s

/-- ANNUNCIATOR_SLOT (R155): a slot boundary inside the second. -/
def execAnnunciatorSlot (s : State) : Host.Outcome State Fault Refusal :=
  carryOut (fun s => s.isRunning && s.slotDue.isSome) (fun s => s.nextSlot (s.slotDue.getD s.now)) s

end Sys2Proof.Machine
end

