-- ==== Sys2Proof/Machine/Detection.lean ====
section
/-! DEFINITION. The limit steps of the trigger detector (chapter 6); its sets come with TICK. -/

namespace Sys2Proof.Machine

/-- WARMUP_END (R103). -/
def execWarmupEnd (s : State) : Host.Outcome State Fault Refusal := takeLimit .warmup s

/-- FORCED_END (R107, R110). -/
def execForcedEnd (s : State) : Host.Outcome State Fault Refusal := takeLimit .forced s

/-- HOLDOFF_END (R113). -/
def execHoldoffEnd (s : State) : Host.Outcome State Fault Refusal := takeLimit .holdoff s

end Sys2Proof.Machine
end

