-- ==== Sys2Proof/Machine/Events.lean ====
section
/-! DEFINITION. The commands of the coincidence unit (chapter 7): each takes the oldest waiting request of its kind. -/

namespace Sys2Proof.Machine

/-- The oldest waiting request belongs to this command, and loading has ended (R121). -/
def State.requestReady (s : State) (i : Instr) : Bool :=
  s.isRunning && decide (s.nextRequest.map CoRequest.instr = some i)

/-- VOTE (R122 to R127). -/
def execVote (s : State) : Host.Outcome State Fault Refusal :=
  carryOut (fun s => s.requestReady .vote)
    (fun s => match s.nextRequest with
      | some (.vote source n onset) => (s.popRequest.takeVote n onset).doneFor source
      | _ => s) s

/-- HEARD_ALERT (R134 to R137). -/
def execHeardAlert (s : State) : Host.Outcome State Fault Refusal :=
  carryOut (fun s => s.requestReady .heardAlert)
    (fun s => match s.nextRequest with
      | some (.heardAlert _ body) => (s.popRequest.hearAlert body).release
      | _ => s) s

/-- HEARD_ALERT_RAISE (R134, R138). -/
def execHeardAlertRaise (s : State) : Host.Outcome State Fault Refusal :=
  carryOut (fun s => s.requestReady .heardAlertRaise)
    (fun s => match s.nextRequest with
      | some (.heardRaise _ body) => (s.popRequest.hearRaise body).release
      | _ => s) s

/-- PEAK_REQUEST (R133). -/
def execPeakRequest (s : State) : Host.Outcome State Fault Refusal :=
  carryOut (fun s => s.requestReady .peakRequest)
    (fun s => match s.nextRequest with
      | some (.peak source n onset peak) => (s.popRequest.takePeak n onset peak).doneFor source
      | _ => s) s

/-- EVENT_CLOSING_TIME (R131): the open record's closing time falls, and a closing-expiry request is made. -/
def execEventClosingTime (s : State) : Host.Outcome State Fault Refusal :=
  carryOut (fun s => s.isRunning && s.closingDue.isSome)
    (fun s => match s.closingDue with
      | some serial => s.askCo (.closing serial)
      | none => s) s

/-- CLOSING_EXPIRY (R131). -/
def execClosingExpiry (s : State) : Host.Outcome State Fault Refusal :=
  carryOut (fun s => s.requestReady .closingExpiry)
    (fun s => match s.nextRequest with
      | some (.closing serial) => s.popRequest.takeClosing serial
      | _ => s) s

/-- RAISE_SENT (R139). -/
def execRaiseSent (s : State) : Host.Outcome State Fault Refusal :=
  carryOut (fun s => s.requestReady .raiseSent)
    (fun s => match s.nextRequest with
      | some (.raiseSent serial) => s.popRequest.takeRaiseSent serial
      | _ => s) s

end Sys2Proof.Machine
end

