-- ==== Sys2Proof/Machine/Heating.lean ====
section
/-! DEFINITION. The commands of the heater controller (chapter 10). -/

namespace Sys2Proof.Machine

/-- A computation, whole (R174). -/
def State.compute (s : State) : State :=
  let s := { s with heater := { s.heater with computationDue := false } }
  s.computeDemand.announceChange.allocate

/-- COMPUTATION (R174): a second boundary event has brought one, and it is still to be made.
DESIGN CHOICE (assumption log 5): so it always follows the reading of its boundary, of the two orders that R169 and R175
allow. -/
def execComputation (s : State) : Host.Outcome State Fault Refusal :=
  carryOut (fun s => s.isRunning && s.heater.computationDue) State.compute s

/-- ANNOUNCEMENT_POINT (R177). -/
def execAnnouncementPoint (s : State) : Host.Outcome State Fault Refusal :=
  carryOut (fun s => s.announcementDue.isSome)
    (fun s => ({ s with heater := { s.heater with lastPoint := s.announcementDue } }).requestHeat) s

/-- HOLD_LIMIT (R183). -/
def execHoldLimit (s : State) : Host.Outcome State Fault Refusal := carryOut State.holdLimitReached State.limitHold s

/-- HEATER_WINDOW_EDGE (R184, R185): the outputs follow the present subsecond. -/
def execHeaterWindowEdge (s : State) : Host.Outcome State Fault Refusal :=
  carryOut State.isRunning State.followHeaters s

end Sys2Proof.Machine
end

