-- ==== Sys2Proof/Machine/Intake.lean ====
section
/-! DEFINITION. The commands of the sample intake (chapter 5). -/

namespace Sys2Proof.Machine

/-- A port frame is open and its set has not arrived yet (R79; assumption log 27). -/
def State.setExpected (s : State) : Bool :=
  s.portOpen && (match s.intake.frame with
    | some n => decide (n < 72)
    | none => false)

/-- A port frame closes (R79). -/
def Intake.closeFrame (i : Intake) : Intake :=
  match i.frame with
  | none => i
  | some n =>
    if n < 72 then
      { i with frame := none, counters := { i.counters with incomplete := bump16 i.counters.incomplete } }
    else { i with frame := none }

/-- PORT_FRAME_OPEN (R79, R81): SFRAME rises while the port is open. -/
def execPortFrameOpen (s : State) : Host.Outcome State Fault Refusal :=
  carryOut (fun s => s.portOpen && s.intake.frame.isNone) (fun s => s.mapIntake (fun i => { i with frame := some 0 })) s

/-- SET_ARRIVAL (R79, R80, R82): bit 72 of a set is sampled. -/
def execSetArrival (bits : BitVec 72) (s : State) : Host.Outcome State Fault Refusal :=
  carryOut State.setExpected (fun s => s.arrive bits) s

/-- PORT_FRAME_CLOSE (R79): SFRAME falls. -/
def execPortFrameClose (s : State) : Host.Outcome State Fault Refusal :=
  carryOut (fun s => s.portOpen && s.intake.frame.isSome) (fun s => s.mapIntake Intake.closeFrame) s

/-- TICK (R83 to R88). -/
def execTick (s : State) : Host.Outcome State Fault Refusal :=
  carryOut (fun s => s.tickDue.isSome) (fun s => s.tick (s.tickDue.getD s.now)) s

/-- STALL (R86, R101). -/
def execStall (s : State) : Host.Outcome State Fault Refusal := takeLimit .stall s

end Sys2Proof.Machine
end

