-- ==== Sys2Proof/Machine/PeerTable.lean ====
section
/-! DEFINITION. The commands of the peer table (chapter 3). -/

namespace Sys2Proof.Machine

/-- INBOUND_BEACON (R46, R48, R51). -/
def execInboundBeacon (s : State) : Host.Outcome State Fault Refusal :=
  carryOut (fun s => s.entryReady .beacon) (fun s => s.inbound State.applyBeacon) s

/-- INBOUND_ONSET (R46, R48, R55). -/
def execInboundOnset (s : State) : Host.Outcome State Fault Refusal :=
  carryOut (fun s => s.entryReady .onset) (fun s => s.inbound State.applyOnset) s

/-- INBOUND_CODA (R46, R48, R57). -/
def execInboundCoda (s : State) : Host.Outcome State Fault Refusal :=
  carryOut (fun s => s.entryReady .coda) (fun s => s.inbound State.applyCoda) s

/-- INBOUND_HEAT (R46, R48, R58). -/
def execInboundHeat (s : State) : Host.Outcome State Fault Refusal :=
  carryOut (fun s => s.entryReady .heat) (fun s => s.inbound State.applyHeat) s

/-- INBOUND_ALERT (R46, R48, R59). -/
def execInboundAlert (s : State) : Host.Outcome State Fault Refusal :=
  carryOut (fun s => s.entryReady .alert) (fun s => s.inbound State.applyAlert) s

/-- INBOUND_ALERT_RAISE (R46, R48, R59). -/
def execInboundAlertRaise (s : State) : Host.Outcome State Fault Refusal :=
  carryOut (fun s => s.entryReady .alertRaise) (fun s => s.inbound State.applyRaise) s

/-- INBOUND_QUERY (R46, R48, R60, R196). -/
def execInboundQuery (s : State) : Host.Outcome State Fault Refusal :=
  carryOut (fun s => s.entryReady .query) (fun s => s.inbound State.applyQuery) s

/-- INBOUND_REPLY (R46, R48): a REPLY of another station that passes the filter is discarded without a count. -/
def execInboundReply (s : State) : Host.Outcome State Fault Refusal :=
  carryOut (fun s => s.entryReady .reply) (fun s => s.inbound (fun _ s => s)) s

/-- STATION_CONFLICT_EXPIRY (R49). -/
def execStationConflictExpiry (s : State) : Host.Outcome State Fault Refusal := takeLimit .conflict s

/-- TIME_PART_AGE_OUT (R61, R54). -/
def execTimePartAgeOut (row : Station) (s : State) : Host.Outcome State Fault Refusal := takeLimit (.timePart row) s

/-- HEAT_PART_AGE_OUT (R61). -/
def execHeatPartAgeOut (row : Station) (s : State) : Host.Outcome State Fault Refusal := takeLimit (.heatPart row) s

/-- TRIGGER_PART_AGE_OUT (R61). -/
def execTriggerPartAgeOut (row : Station) (s : State) : Host.Outcome State Fault Refusal :=
  takeLimit (.triggerPart row) s

end Sys2Proof.Machine
end

