-- ==== Sys2Proof/Machine/Power.lean ====
section
/-! DEFINITION. The limit steps of the battery monitor (chapter 9); its readings come with the second boundary event. -/

namespace Sys2Proof.Machine

/-- FULL_RESYNC (R163). -/
def execFullResync (s : State) : Host.Outcome State Fault Refusal := takeLimit .resync s

/-- SHED_ENTRY (R165). -/
def execShedEntry (s : State) : Host.Outcome State Fault Refusal := takeLimit .shedEntry s

/-- SHED_EXIT (R166). -/
def execShedExit (s : State) : Host.Outcome State Fault Refusal := takeLimit .shedExit s

end Sys2Proof.Machine
end

