-- ==== Sys2Proof/Machine/Scheduler.lean ====
section
/-! DEFINITION. The commands of the outbound scheduler (chapter 4). -/

namespace Sys2Proof.Machine

/-- The READY slot of highest priority is handed to the transmitter (R65). -/
def State.choose (s : State) : State :=
  match s.sched.slots.chosen with
  | some (k, r) => s.handOver k r
  | none => s

/-- CHOICE (R65). -/
def execChoice (s : State) : Host.Outcome State Fault Refusal := carryOut State.choiceDue State.choose s

/-- REQUEST_DEADLINE (R69). -/
def execRequestDeadline (kind : DeadlineKind) (s : State) : Host.Outcome State Fault Refusal :=
  carryOut (fun s => s.deadlineDue kind) (fun s => s.expire (deadlineSlot kind)) s

/-- The body of a BEACON at its beacon point (R74). -/
def State.beaconNow (s : State) : List Byte :=
  beaconBody s.clock.state s.battery.stage s.soc s.isDisturbed s.loader.defaultFlag s.peers.conflict

/-- A candidate point is taken; where it is a beacon point the BEACON request is made (R73 to R75, R69). -/
def State.takeCandidate (s : State) : State :=
  match s.candidatePoint with
  | none => s
  | some p =>
    let s := { s with sched := { s.sched with lastCandidate := some p } }
    if p.sec.toNat % s.stagePeriod = 0 then s.request .beacon s.beaconNow (.stamp p) p (some (p.add 5000000)) else s

/-- BEACON_CANDIDATE_POINT (R73). -/
def execBeaconCandidatePoint (s : State) : Host.Outcome State Fault Refusal :=
  carryOut (fun s => s.candidatePoint.isSome) State.takeCandidate s

end Sys2Proof.Machine
end

