-- ==== Sys2Proof/Machine/StartUp.lean ====
section
/-! DEFINITION. The commands of start-up, the profile read and the hatch (chapter 11). -/

namespace Sys2Proof.Machine

/-- POWER_ON_RESET (R25, R188): every block takes its power-on values and the part is held in reset. -/
def execPowerOnReset (s : State) : Host.Outcome State Fault Refusal := carryOut (fun _ => true) State.powerOn s

/-- PIN_RESET (R25, R173, R188): as a power-on reset, but F, Q and the learned flag are kept. -/
def execPinReset (s : State) : Host.Outcome State Fault Refusal := carryOut (fun _ => true) State.resetPin s

/-- RESET_RELEASE (R188): from reset held, LOADING begins. -/
def execResetRelease (stn : BitVec 4) (fast hatchOpen : Bool) (s : State) : Host.Outcome State Fault Refusal :=
  carryOut (fun s => !s.isReleased) (fun s => s.releaseReset stn fast hatchOpen) s

/-- PROFILE_READ_ATTEMPT (R189): the next attempt starts on the bus. -/
def execProfileReadAttempt (s : State) : Host.Outcome State Fault Refusal :=
  carryOut State.attemptDue
    (fun s => s.mapLoader (fun l => { l with bus := .reading 0, attempts := l.attempts + 1 })) s

/-- PROFILE_ATTEMPT_END (R189, R190): the attempt reaches its stop, or fails, at the moment R189 gives that result. -/
def execProfileAttemptEnd (result : ProfileEnd) (s : State) : Host.Outcome State Fault Refusal :=
  carryOut (fun s => s.attemptEnded result) (fun s => s.endAttempt (s.attemptCycles.getD 0) result) s

/-- PROFILE_ATTEMPT_TIMEOUT (R189): 100,000 cycles have passed since the attempt's start. -/
def execProfileAttemptTimeout (s : State) : Host.Outcome State Fault Refusal :=
  carryOut (fun s => decide (tickCycles ≤ s.attemptCycles.getD 0))
    (fun s => s.failAttempt (s.attemptCycles.getD 0)) s

/-- HATCH_LEVEL_CHANGE (R194): the HATCH input takes a level. -/
def execHatchLevelChange (hatchOpen : Bool) (s : State) : Host.Outcome State Fault Refusal :=
  carryOut (fun _ => true) (fun s => s.setHatch hatchOpen) s

/-- FILTERED_STATE_CHANGE (R194, R195): the stability count has reached 500,000 cycles. -/
def execFilteredStateChange (s : State) : Host.Outcome State Fault Refusal :=
  carryOut State.hatchDue (fun s => s.mapLoader (fun l => l.followHatch s.pins.hatch)) s

/-- DISTURBED_TIMER_EXPIRY (R195). -/
def execDisturbedTimerExpiry (s : State) : Host.Outcome State Fault Refusal := takeLimit .disturbed s

end Sys2Proof.Machine
end

