-- ==== Sys2Proof/Machine/StationClock.lean ====
section
/-! DEFINITION. The commands of the station clock (chapter 1), the second boundary event with what it brings to every
block among them. -/

namespace Sys2Proof.Machine

/-! ### The second boundary event (R4) -/

/-- The clock at a second boundary event: the holdover age (R16). -/
def Clock.boundary (c : Clock) : Clock := if c.state = .holdover then { c with age := bump16 c.age } else c

/-- The disturbed timer at a second boundary event (R195). -/
def Loader.boundary (l : Loader) : Loader := { l with disturbedTimer := l.disturbedTimer - 1 }

/-- The blocks that count boundary events: the link counters' latch, the ageing and the station-conflict timer, the
disturbed timer, the holdover age and the annunciator (R4, R16, R44, R49, R61, R154, R155, R195). -/
def State.countBoundary (s : State) (sec : BitVec 32) : State :=
  let s := (s.mapTrunk Trunk.latch).agePeers
  let s := s.mapLoader Loader.boundary
  let s := s.mapClock (fun c => { c.boundary with latestBoundary := some sec })
  s.annunciateBoundary ⟨sec, 0⟩

/-- The computation that a second boundary event brings (R174). -/
def State.bringComputation (s : State) (sec : BitVec 32) : State :=
  if sec.toNat % 10 = 0 then { s with heater := { s.heater with computationDue := true } } else s

/-- The second boundary event, with the reading and the computation that RUNNING brings (R4, R159, R174).
DESIGN CHOICE (assumption log 5): the reading is taken in the event itself and the computation only after it, of the two
orders that R169 and R175 allow.
DESIGN CHOICE (assumption log 44): a heat part that reaches age 180 here leaves the row by its limit step after the event,
so the reallocation of a stage change that this reading makes still sums it (R61, R181). -/
def State.boundaryEvent (s : State) (inputs : Readings) : State :=
  match s.boundary with
  | none => s
  | some sec =>
    let s := { s with pins := { s.pins with analog := inputs } }
    let s := s.countBoundary sec
    if s.isRunning then (s.takeReading inputs).bringComputation sec else s

/-- SECOND_BOUNDARY_EVENT (R4). -/
def execSecondBoundaryEvent (inputs : Readings) (s : State) : Host.Outcome State Fault Refusal :=
  carryOut (fun s => s.isReleased && s.boundary.isSome) (fun s => s.boundaryEvent inputs) s

/-! ### Edges and time records (R5 to R9) -/

/-- PPS_EDGE (R5): observed from the end of loading onward. -/
def execPpsEdge (s : State) : Host.Outcome State Fault Refusal :=
  carryOut State.isRunning (fun s => s.mapClock Clock.takeEdge) s

/-- EDGE_MISSING (R7): 900 ms have passed since the capture of the edge awaiting its record. -/
def execEdgeMissing (s : State) : Host.Outcome State Fault Refusal :=
  carryOut (fun s => s.isRunning && s.edgeOverdue) (fun s => s.mapClock Clock.edgeMissing) s

/-- REFRX_CHARACTER (R6). -/
def execRefrxCharacter (data : Byte) (stop : Bool) (s : State) : Host.Outcome State Fault Refusal :=
  carryOut State.isRunning (fun s => s.refCharacter data stop) s

/-- REFRX_GAP_TIMEOUT (R6): more than 5 ms have passed inside a record. -/
def execRefrxGapTimeout (s : State) : Host.Outcome State Fault Refusal :=
  carryOut (fun s => s.isRunning && s.recordGap 50000) (fun s => s.mapClock Clock.badRecord) s

/-- OUTLIER_LIMIT (R8). -/
def execOutlierLimit (s : State) : Host.Outcome State Fault Refusal := takeLimit .outlier s

/-- REFERENCE_EVALUATION (R15). -/
def execReferenceEvaluation (s : State) : Host.Outcome State Fault Refusal := takeLimit .evaluation s

/-- REFERENCE_RETURN (R17). -/
def execReferenceReturn (s : State) : Host.Outcome State Fault Refusal := takeLimit .refReturn s

/-- REFERENCE_LOSS (R9): 3 s without a rising edge; the period brings one loss. -/
def execReferenceLoss (s : State) : Host.Outcome State Fault Refusal :=
  carryOut (fun s => s.isRunning && s.lossPeriodOver)
    (fun s => (s.mapClock (fun c => { c with lossStart := none })).loseReference) s

/-- CONSECUTIVE_MISSING_LIMIT (R9). -/
def execConsecutiveMissingLimit (s : State) : Host.Outcome State Fault Refusal := takeLimit .missing s

/-- HOLDOVER_AGE_LIMIT (R16). -/
def execHoldoverAgeLimit (s : State) : Host.Outcome State Fault Refusal := takeLimit .age s

/-- PEER_EVALUATION (R20): 16 s after the start of the peer interval. -/
def execPeerEvaluation (s : State) : Host.Outcome State Fault Refusal :=
  carryOut (fun s => s.isRunning && s.peerEvaluationDue) State.evaluatePeers s

end Sys2Proof.Machine
end

