-- ==== Sys2Proof/Machine/TrunkLine.lean ====
section
/-! DEFINITION. The commands of the trunk controller (chapter 2). -/

namespace Sys2Proof.Machine

/-- FALLING_EDGE (R28, R30, R37): a dominant sample after a recessive one, outside a character. -/
def execFallingEdge (s : State) : Host.Outcome State Fault Refusal :=
  carryOut (fun s => s.isReleased && !s.trunk.receiver.inside) (fun s => s.mapTrunk (fun t => t.fallingEdge s.now)) s

/-- GLITCH (R28): sample 8 of bit time 0 reads recessive; under the station's own start bit that is a drive fault
(R38). -/
def execGlitch (s : State) : Host.Outcome State Fault Refusal :=
  carryOut (fun s => s.trunk.receiver.inside) State.takeGlitch s

/-- RECEIVER_HUNTS_AGAIN (R29 to R31, R40): the first recessive sample after dominant ones outside a character, or of the
receiver's wait (assumption log 17). -/
def execReceiverHuntsAgain (s : State) : Host.Outcome State Fault Refusal :=
  carryOut State.mayRise (fun s => s.mapTrunk Trunk.rise) s

/-- CHARACTER_RECEIVED (R28): a character is taken at sample 9 of its stop bit.
A start edge whose sample 8 reads recessive is a glitch, and is dropped. -/
def execCharacterReceived (samples : BitVec 169) (s : State) : Host.Outcome State Fault Refusal :=
  carryOut (fun s => s.trunk.receiver.inside) (fun s => s.readCharacter samples) s

/-- LINE_IDLE (R30): the idle timer has reached 176 samples. -/
def execLineIdle (s : State) : Host.Outcome State Fault Refusal := carryOut State.idleReached State.lineBecomesIdle s

/-- LINE_FAULT (R31): the dominant run has reached 352 samples. -/
def execLineFault (s : State) : Host.Outcome State Fault Refusal :=
  carryOut State.faultReached (fun s => s.mapTrunk Trunk.lineFault) s

/-- TX_START (R37, R66): the first sample boundary after a hand-over. -/
def execTxStart (s : State) : Host.Outcome State Fault Refusal := carryOut State.startReached State.startSending s

/-- ARBITRATION_LOSS (R38, R39): at sample 8 of a recessive bit the line reads dominant. -/
def execArbitrationLoss (s : State) : Host.Outcome State Fault Refusal :=
  carryOut (fun s => s.atReadBack && !s.sendsDominant) State.loseArbitration s

/-- DRIVE_FAULT (R38, R40): at sample 8 of a dominant bit the line reads recessive. -/
def execDriveFault (s : State) : Host.Outcome State Fault Refusal :=
  carryOut (fun s => s.atReadBack && s.sendsDominant) State.faultDrive s

end Sys2Proof.Machine
end

