-- ==== Sys2Proof/Machine/Dispatch.lean ====
section
/-! DEFINITION. The meaning of every command: one arm for each row of spec/opcode_table.json. -/

namespace Sys2Proof.Machine

def exec (i : Instr) (s : State) : Host.Outcome State Fault Refusal :=
  match i with
  | .powerOnReset => Sys2Proof.Machine.execPowerOnReset s
  | .pinReset => Sys2Proof.Machine.execPinReset s
  | .resetRelease stn fast hatchOpen => Sys2Proof.Machine.execResetRelease stn fast hatchOpen s
  | .profileReadAttempt => Sys2Proof.Machine.execProfileReadAttempt s
  | .profileAttemptEnd result => Sys2Proof.Machine.execProfileAttemptEnd result s
  | .profileAttemptTimeout => Sys2Proof.Machine.execProfileAttemptTimeout s
  | .secondBoundaryEvent inputs => Sys2Proof.Machine.execSecondBoundaryEvent inputs s
  | .ppsEdge => Sys2Proof.Machine.execPpsEdge s
  | .edgeMissing => Sys2Proof.Machine.execEdgeMissing s
  | .refrxCharacter data stop => Sys2Proof.Machine.execRefrxCharacter data stop s
  | .refrxGapTimeout => Sys2Proof.Machine.execRefrxGapTimeout s
  | .outlierLimit => Sys2Proof.Machine.execOutlierLimit s
  | .referenceEvaluation => Sys2Proof.Machine.execReferenceEvaluation s
  | .referenceReturn => Sys2Proof.Machine.execReferenceReturn s
  | .referenceLoss => Sys2Proof.Machine.execReferenceLoss s
  | .consecutiveMissingLimit => Sys2Proof.Machine.execConsecutiveMissingLimit s
  | .holdoverAgeLimit => Sys2Proof.Machine.execHoldoverAgeLimit s
  | .peerEvaluation => Sys2Proof.Machine.execPeerEvaluation s
  | .characterReceived samples => Sys2Proof.Machine.execCharacterReceived samples s
  | .lineIdle => Sys2Proof.Machine.execLineIdle s
  | .lineFault => Sys2Proof.Machine.execLineFault s
  | .choice => Sys2Proof.Machine.execChoice s
  | .txStart => Sys2Proof.Machine.execTxStart s
  | .arbitrationLoss => Sys2Proof.Machine.execArbitrationLoss s
  | .driveFault => Sys2Proof.Machine.execDriveFault s
  | .inboundBeacon => Sys2Proof.Machine.execInboundBeacon s
  | .inboundOnset => Sys2Proof.Machine.execInboundOnset s
  | .inboundCoda => Sys2Proof.Machine.execInboundCoda s
  | .inboundHeat => Sys2Proof.Machine.execInboundHeat s
  | .inboundAlert => Sys2Proof.Machine.execInboundAlert s
  | .inboundAlertRaise => Sys2Proof.Machine.execInboundAlertRaise s
  | .inboundQuery => Sys2Proof.Machine.execInboundQuery s
  | .inboundReply => Sys2Proof.Machine.execInboundReply s
  | .stationConflictExpiry => Sys2Proof.Machine.execStationConflictExpiry s
  | .timePartAgeOut row => Sys2Proof.Machine.execTimePartAgeOut row s
  | .heatPartAgeOut row => Sys2Proof.Machine.execHeatPartAgeOut row s
  | .triggerPartAgeOut row => Sys2Proof.Machine.execTriggerPartAgeOut row s
  | .requestDeadline kind => Sys2Proof.Machine.execRequestDeadline kind s
  | .beaconCandidatePoint => Sys2Proof.Machine.execBeaconCandidatePoint s
  | .portFrameOpen => Sys2Proof.Machine.execPortFrameOpen s
  | .setArrival bits => Sys2Proof.Machine.execSetArrival bits s
  | .portFrameClose => Sys2Proof.Machine.execPortFrameClose s
  | .tick => Sys2Proof.Machine.execTick s
  | .stall => Sys2Proof.Machine.execStall s
  | .warmupEnd => Sys2Proof.Machine.execWarmupEnd s
  | .forcedEnd => Sys2Proof.Machine.execForcedEnd s
  | .holdoffEnd => Sys2Proof.Machine.execHoldoffEnd s
  | .vote => Sys2Proof.Machine.execVote s
  | .heardAlert => Sys2Proof.Machine.execHeardAlert s
  | .heardAlertRaise => Sys2Proof.Machine.execHeardAlertRaise s
  | .peakRequest => Sys2Proof.Machine.execPeakRequest s
  | .eventClosingTime => Sys2Proof.Machine.execEventClosingTime s
  | .closingExpiry => Sys2Proof.Machine.execClosingExpiry s
  | .raiseSent => Sys2Proof.Machine.execRaiseSent s
  | .deferenceExpiry => Sys2Proof.Machine.execDeferenceExpiry s
  | .annunciatorSlot => Sys2Proof.Machine.execAnnunciatorSlot s
  | .fullResync => Sys2Proof.Machine.execFullResync s
  | .shedEntry => Sys2Proof.Machine.execShedEntry s
  | .shedExit => Sys2Proof.Machine.execShedExit s
  | .computation => Sys2Proof.Machine.execComputation s
  | .announcementPoint => Sys2Proof.Machine.execAnnouncementPoint s
  | .holdLimit => Sys2Proof.Machine.execHoldLimit s
  | .heaterWindowEdge => Sys2Proof.Machine.execHeaterWindowEdge s
  | .filteredStateChange => Sys2Proof.Machine.execFilteredStateChange s
  | .disturbedTimerExpiry => Sys2Proof.Machine.execDisturbedTimerExpiry s
  | .fallingEdge => Sys2Proof.Machine.execFallingEdge s
  | .glitch => Sys2Proof.Machine.execGlitch s
  | .receiverHuntsAgain => Sys2Proof.Machine.execReceiverHuntsAgain s
  | .hatchLevelChange hatchOpen => Sys2Proof.Machine.execHatchLevelChange hatchOpen s

end Sys2Proof.Machine
end

