-- ==== Sys2Proof/Machine/Cycle.lean ====
section
/-! DEFINITION. One cycle of OSC10M, and which command of its own the part carries out next (R1, R2, R26, R30, R31, R189,
R194; assumption logs 2, 5, 8 to 10, 17, 20, 45). -/

namespace Sys2Proof.Machine

/-! ### The clock's count (R1, R2) -/

/-- The value counting brings the subsecond to next is millisecond boundary k, for a k in 1..n (R2). -/
def isAdjusted (next : Nat) (n : Nat) : Bool :=
  decide (next % millisecondCycles = 0) && decide (1 ≤ next / millisecondCycles) && decide (next / millisecondCycles ≤ n)
    && decide (next < secondCycles)

/-- One cycle of OSC10M (R1, R2): the extra cycle of a positive adjustment, a skipped value of a negative one, or a plain
count; at the end of the second the next one begins with its own d. -/
def Clock.count (c : Clock) : Clock :=
  if c.hold then { c with hold := false, advanced := 0 }
  else
    let next := c.time.sub + 1
    if secondCycles ≤ next then { c with time := ⟨c.time.sec + 1, 0⟩, advanced := 1 }.refix
    else if isAdjusted next c.d.toNat then { c with time := ⟨c.time.sec, next⟩, hold := true, advanced := 1 }
    else if isAdjusted next (-c.d).toNat then { c with time := ⟨c.time.sec, next + 1⟩, advanced := 2 }
    else { c with time := ⟨c.time.sec, next⟩, advanced := 1 }

/-! ### The sample clock (R26, R30, R31, R37) -/

/-- What the accumulator gains in a cycle: 16 × rate (R26). -/
def sampleStep (fast : Bool) : Nat := if fast then 1843200 else 921600

/-- The receiver counts a sample. -/
def Receiver.sample : Receiver → Receiver
  | .inChar n c => .inChar (min (n + 1) 169) c
  | .off => .off
  | .hunting => .hunting
  | .waitRecessive => .waitRecessive

/-- The transmitter at a sample boundary (R37, R38). -/
def Transmitter.sample : Transmitter → Transmitter
  | .idle => .idle
  | .handed f e _ => .handed f e true
  | .sending f r => .sending f { r with position := r.position + 1 }

/-- A new sample at the line's present level: the idle timer, where the sample lies after the last one of a character, the
dominant run and the positions move, and a line held through a drive fault's sample is released (R30, R31, R37, R40). -/
def Trunk.sample (t : Trunk) : Trunk :=
  let outside := !t.receiver.inside
  { t with
    tail := t.tail - 1
    idleTimer := if outside && !t.dominant && decide (t.tail ≤ 1) then min (t.idleTimer + 1) 176 else t.idleTimer
    run := if outside && t.dominant then min (t.run + 1) 352 else t.run
    receiver := t.receiver.sample
    tx := if t.dominant then t.tx.sample.edge else t.tx.sample
    releasing := false }

/-- A cycle of the sample clock (R26). -/
def Trunk.cycle (t : Trunk) (fast : Bool) : Trunk :=
  let acc := t.acc + sampleStep fast
  if secondCycles ≤ acc then { t.sample with acc := acc - secondCycles } else { t with acc := acc }

/-! ### The bus and the hatch (R189, R194) -/

/-- A cycle of the two-wire bus (R189). -/
def Bus.cycle : Bus → Bus
  | .idle => .idle
  | .waiting left => .waiting (left - 1)
  | .reading n => .reading (n + 1)
  | .aborting left => .aborting (left - 1)

/-- A cycle of the bus and the hatch filter (R189, R194). -/
def Loader.cycle (l : Loader) (hatch : Bool) : Loader :=
  { l with
    bus := l.bus.cycle
    stability := if hatch = l.filteredOpen then 0 else min (l.stability + 1) 500000 }

/-- One cycle of OSC10M; while a reset is held nothing counts (R1, R188).
A failed attempt whose stop condition is complete has ended before the cycle (R189). -/
def State.countCycle (s : State) : State :=
  if s.isReleased then
    let s := s.finishAbort
    { s with
      clock := s.clock.count
      trunk := s.trunk.cycle s.loader.fast
      loader := s.loader.cycle s.pins.hatch }
  else s

/-! ### The commands of the part's own -/

/-- A command with whether it is due. -/
structure Candidate where
  isDue : Bool
  command : Instr

/-- The commands that fall by time or by the state alone, in the order in which the part takes those that fall together
(assumption log 5). -/
def State.timed (s : State) : List Candidate :=
  [⟨s.isReleased && s.boundary.isSome, .secondBoundaryEvent s.pins.analog⟩,
   ⟨s.isRunning && s.heater.computationDue, .computation⟩,
   ⟨s.tickDue.isSome, .tick⟩,
   ⟨s.candidatePoint.isSome, .beaconCandidatePoint⟩,
   ⟨s.announcementDue.isSome, .announcementPoint⟩,
   ⟨s.isRunning && s.slotDue.isSome, .annunciatorSlot⟩,
   ⟨s.holdLimitReached, .holdLimit⟩,
   ⟨s.isRunning && s.deferenceReached, .deferenceExpiry⟩,
   ⟨s.isRunning && s.closingDue.isSome, .eventClosingTime⟩,
   ⟨s.isRunning && s.edgeOverdue, .edgeMissing⟩,
   ⟨s.isRunning && s.recordGap (50000 + refCharCycles), .refrxGapTimeout⟩,
   ⟨s.isRunning && s.lossPeriodOver, .referenceLoss⟩,
   ⟨s.isRunning && s.peerEvaluationDue, .peerEvaluation⟩,
   ⟨s.deadlineDue .beacon, .requestDeadline .beacon⟩,
   ⟨s.deadlineDue .heat, .requestDeadline .heat⟩,
   ⟨s.deadlineDue .reply, .requestDeadline .reply⟩,
   ⟨s.attemptDue, .profileReadAttempt⟩,
   ⟨s.stopReached, .profileAttemptEnd (.stopped s.unreportedBytes)⟩,
   ⟨decide (tickCycles ≤ s.attemptCycles.getD 0), .profileAttemptTimeout⟩,
   ⟨s.hatchDue, .filteredStateChange⟩,
   ⟨s.faultReached, .lineFault⟩,
   ⟨s.huntDue, .receiverHuntsAgain⟩,
   ⟨s.idleReached, .lineIdle⟩,
   ⟨s.startReached, .txStart⟩,
   ⟨s.isRunning && s.heatersToMove, .heaterWindowEdge⟩,
   ⟨s.choiceDue, .choice⟩]

/-- The command that takes waiting work: a request of the coincidence unit, then an entry of the inbound queue
(R46, R121). -/
def State.waitingCommand (s : State) : Option Instr :=
  match s.nextRequest with
  | some r => if s.isRunning then some r.instr else none
  | none => s.inboundInstr

/-- The command of its own that the part carries out next, if one is due (assumption logs 2, 5).
DESIGN CHOICE (assumption logs 5, 23): waiting work is taken before another cycle passes, so a heard ALERT is matched
before the 176 idle samples that bring a choice have passed: of the two orders of R148, runs show match first alone. -/
def State.dueCommand (s : State) : Option Instr :=
  match s.nextLimit with
  | some x => some x.instr
  | none =>
    match s.timed.find? (fun x => x.isDue) with
    | some x => some x.command
    | none => s.waitingCommand

end Sys2Proof.Machine
end

