-- ==== Sys2Proof/Machine/Step.lean ====
section
/-! DEFINITION. The machine's step over its queue of commands (assumption logs 1, 2). -/

namespace Sys2Proof.Machine

/-- One step: the command at the front of the queue, on the state with the queue's rest.
With an empty queue the part goes on by itself: a command of its own that is due, or one cycle of OSC10M. -/
def step (s : State) : Host.Outcome State Fault Refusal :=
  match s.pending with
  | c :: rest => exec c { s with pending := rest }
  | [] =>
    match s.dueCommand with
    | some c => exec c s
    | none => .next s.countCycle

/-- The state with the command that a table word spells at the front of its queue; unchanged where the word spells
none. -/
def State.withFetchWord (s : State) (nbits w : Nat) : State :=
  match decodeTableWord nbits w with
  | some c => { s with pending := c :: s.pending }
  | none => s

end Sys2Proof.Machine
end

