-- ==== Sys2Proof/Safety.lean ====
section
/-! DEFINITION. What a sound state of the part is: the ranges the manual gives its values, in the terms the statements
use. -/

namespace Sys2Proof.Machine

/-- The clock's ranges (R1, R3). -/
def Clock.sound (c : Clock) : Prop :=
  c.time.sub < secondCycles ∧ -3200 ≤ c.F ∧ c.F ≤ 3200 ∧ -12 ≤ c.P ∧ c.P ≤ 12

/-- The capacities of the part's stores (R23, R45, R76, R82, R129): the elastic store, of depth 4, 8 or 16, holds no more
sets than its depth in RUNNING, and none before the end of loading. -/
def State.bounded (s : State) : Prop :=
  s.clock.log.length ≤ 4 ∧ s.peers.queue.length ≤ 4 ∧ s.sched.history.length ≤ 8 ∧ s.co.events.length ≤ 8 ∧
    (s.loader.profile.depth = 4 ∨ s.loader.profile.depth = 8 ∨ s.loader.profile.depth = 16) ∧
    (s.loader.phase = .running → s.intake.store.length ≤ s.loader.profile.depth) ∧
    (s.loader.phase ≠ .running → s.intake.store = [])

/-- At most one event record is open, and it is the newest (R129). -/
def State.oneOpen (s : State) : Prop := ∀ e ∈ s.co.events.tail, e.isOpen = false

/-- LOADOFF is asserted exactly while a reset is held, loading is in progress or the stage is SHED; while it is, the
detector is HALTED and no port frame is open; and the counts of consecutive readings are 0 before the end of loading, the
recovery count outside SHED and the low-voltage count in it (R81, R101, R165, R166, R167, R173). -/
def State.disconnects (s : State) : Prop :=
  (s.battery.loadoff = true ↔ s.loader.phase ≠ .running ∨ s.battery.stage = .shed) ∧
    (s.battery.loadoff = true → s.detector.state = .halted ∧ s.intake.frame = none) ∧
    (s.loader.phase ≠ .running → s.battery.full = 0 ∧ s.battery.low = 0 ∧ s.battery.recovery = 0) ∧
    (s.battery.stage ≠ .shed → s.battery.recovery = 0) ∧ (s.battery.stage = .shed → s.battery.low = 0)

/-- CHGEN is ruled by its conditions: deasserted before the end of loading, with no reading yet, and in SHED; and, once
the stage tests of a reading and the entry to SHED that they bring are done, asserted exactly while the battery
temperature lies in its window, with no sensor fault, outside SHED (R168). -/
def State.chargeRuled (s : State) : Prop :=
  (s.loader.phase ≠ .running → s.battery.batteryTemp = none ∧ s.battery.chgen = false) ∧
    (s.battery.stage = .shed → s.battery.chgen = false) ∧
    (s.battery.testsDue = false → (s.battery.stage ≠ .shed → s.battery.low < 10) →
      (s.battery.chgen = true ↔ s.battery.batteryFault = false ∧ s.battery.stage ≠ .shed ∧
        ∃ x, s.battery.batteryTemp = some x ∧ s.loader.profile.chargeMin ≤ x ∧ x ≤ s.loader.profile.chargeMax))

/-- This heater controller is that of `s` after the allocation that a notice of the stage in force in `s` brings: it
stands but for the sums, the budget, the grant, its division, the steps and the outputs.
A computation that a boundary brings is said apart (R169, R174, R181). -/
def State.reallocates (s : State) (t : Heater) : Prop :=
  t = { s.allocate.heater with computationDue := t.computationDue } ∧
    t = { s.heater with
      U := t.U, Nh := t.Nh, budget := t.budget, G := t.G, grant0 := t.grant0, grant1 := t.grant1
      steps0 := t.steps0, steps1 := t.steps1, out0 := t.out0, out1 := t.out1, computationDue := t.computationDue }

/-! ### The situations in which the statements say what a command does -/

/-- A complete and valid record that answers the awaiting edge within 900 ms. -/
def State.answersEdge (s : State) (r : List Byte) (b : Byte) (x : Edge) (seconds : BitVec 32) : Prop :=
  s.isSettled = true ∧ s.loader.phase = .running ∧ s.clock.refBytes = r ∧ r.length = 6 ∧
    (∃ t, s.clock.refLast = some t ∧ s.clock.time.diff t ≤ 50000) ∧ b = r.foldl (fun x y => x ^^^ y) 0 ∧
    (r.getD 5 0).getLsbD 0 = true ∧ seconds = BitVec.ofNat 32 (field r 1 4) ∧ s.clock.awaiting = some x ∧
    s.clock.time.diff x.captured ≤ 9000000

/-- A complete record that says its time is not valid, paired with the awaiting edge within 900 ms (R7, R9). -/
def State.refusesEdge (s : State) (r : List Byte) (b : Byte) (x : Edge) : Prop :=
  s.isSettled = true ∧ s.loader.phase = .running ∧ s.clock.refBytes = r ∧ r.length = 6 ∧
    (∃ t, s.clock.refLast = some t ∧ s.clock.time.diff t ≤ 50000) ∧ b = r.foldl (fun x y => x ^^^ y) 0 ∧
    (r.getD 5 0).getLsbD 0 = false ∧ s.clock.awaiting = some x ∧ s.clock.time.diff x.captured ≤ 9000000

/-- A request whose times a step has moved (R72). -/
def Request.movedBy (r : Request) (x : Int) : Request :=
  { r with
    time := r.time.add x, deadline := r.deadline.map (fun c => c.add x), capture := r.capture.map (fun c => c.add x) }

/-- A link counter after a second boundary event (R44). -/
def LinkCounter.latched (c : LinkCounter) : LinkCounter := ⟨0, min c.running 255, c.total⟩

/-- The classes of a peer that qualify under a steering class (table of R18). -/
def TimeClass.sources : TimeClass → List TimeClass
  | .t1 => [.t0]
  | .t3 => [.t0, .t1]
  | .t4 => [.t0, .t1]
  | .t0 => []
  | .t2 => []

/-- The time parts of the other stations whose class is among these, by station number (R18). -/
def State.partsOf (s : State) (l : List TimeClass) : List TimePart :=
  stations.filterMap (fun n =>
    if n = s.loader.station then none else (s.peers.row n).time.filter (fun p => decide (p.cls ∈ l)))

/-- The offsets of those parts that are not stale (R18). -/
def State.offsetsOf (s : State) (l : List TimeClass) : List Int :=
  ((s.partsOf l).filter (fun p => !p.stale)).map (fun p => p.offset)

/-- The element at index floor((n - 1)/2) of a list in ascending order: no more than that many are smaller, and more than
that many are not greater (R19). -/
def isMedian (l : List Int) (m : Int) : Prop :=
  m ∈ l ∧ l.countP (fun x => decide (x < m)) ≤ (l.length - 1) / 2 ∧
    (l.length - 1) / 2 < l.countP (fun x => decide (x ≤ m))

/-- `t` is `s` after an entry to PEER-STEERED with this steering class and this median: beyond 2000 cycles with a whole step
of station time, as StepMovesHeldTimes states it (R19, R22, R23). -/
def State.peerEntry (s t : State) (c : TimeClass) (m : Int) : Prop :=
  t.clock.state = .peerSteered ∧ t.clock.steeringClass = some c ∧ t.clock.restartPending = false ∧
    t.clock.F = s.clock.F ∧ t.clock.P = 0 ∧ t.clock.d = adjustment t.clock.time.sec s.clock.F 0 ∧
    (m.natAbs ≤ 2000 → t = { s with clock := { s.clock with
      state := .peerSteered, steeringClass := some c, restartPending := false, P := 0, d := t.clock.d
      interval := .peer m s.clock.time } }) ∧
    (2000 < m.natAbs → t.clock.time = s.clock.time.add (-m) ∧ t.clock.interval = .peer 0 t.clock.time ∧
      t.clock.epoch = s.clock.epoch + 1 ∧
      t.clock.log = ((⟨t.clock.time, max (-2147483647) (min (-m) 2147483647), .peerEntry⟩ : StepEntry)
        :: s.clock.log).take 4 ∧
      t.peers = s.peers.move (-m) ∧
      ∀ v, v = State.applyStep { s with clock := { s.clock with
          state := .peerSteered, steeringClass := some c, restartPending := false } } (-m) .peerEntry →
        t = { v with clock := { v.clock with
          P := 0, interval := .peer 0 v.clock.time, d := adjustment v.clock.time.sec v.clock.F 0 } })

/-- `t` is `s` after the clock has examined its candidates and sources again (R16, R18 to R21, R54). -/
def State.reexamines (s t : State) : Prop :=
  ((s.clock.state = .locked ∨ s.clock.state = .acquire) → t = s) ∧
  (∀ c, (s.clock.state = .unset ∧ c = .t4 ∨ s.clock.state = .holdover ∧ c = if s.clock.aged then .t3 else .t1) →
    (s.offsetsOf c.sources = [] → t = s) ∧ (∀ m, isMedian (s.offsetsOf c.sources) m → s.peerEntry t c m)) ∧
  (∀ c, s.clock.state = .peerSteered → s.clock.steeringClass = some c → (c = .t1 ∨ c = .t3 ∨ c = .t4) →
    (s.partsOf c.sources = [] → t = { s with clock := { s.clock with
      state := .holdover, interval := .none, restartPending := false, acquirePending := false, age := 0, aged := false
      P := 0, d := adjustment s.clock.time.sec s.clock.F 0 } }) ∧
    (s.partsOf c.sources ≠ [] → (s.clock.restartPending = false ∨ s.offsetsOf c.sources = []) → t = s) ∧
    (∀ m, s.clock.restartPending = true → isMedian (s.offsetsOf c.sources) m → t = { s with clock := { s.clock with
      interval := .peer m s.clock.time, restartPending := false } }))

/-- A value held to a range (R192). -/
def held (lo hi x : Nat) : Nat := max lo (min x hi)

/-- A 12-bit signed number held to -400..850 (R192, R203). -/
def heldTemp (x : Nat) : Int := max (-400) (min (if x < 2048 then (x : Int) else (x : Int) - 4096) 850)

/-- A temperature field's number differs from the value drawn from it. -/
def tempMoved (x : Nat) (v : Int) : Bool := decide ((if x < 2048 then (x : Int) else (x : Int) - 4096) ≠ v)

/-- The nearest of 8, 10 and 12, the lower of two equally near (R192, R203). -/
def nearestLength (x : Nat) : Nat := if x ≤ 9 then 8 else if x ≤ 11 then 10 else 12

/-- The working values that R203 draws from an image and R192 brings within range, and the count of those that this has
changed; `b o n` is the number that the n bytes at offset o form. -/
def Profile.drawnFrom (p : Profile) (changed : Nat) (b : Nat → Nat → Nat) : Prop :=
  p.peerSet = BitVec.ofNat 14 (b 0 2) ∧
  p.beaconPeriod = [4, 8, 16, 16].getD (b 2 1 % 4) 0 ∧ p.depth = [4, 8, 16, 16].getD (b 2 1 / 4 % 4) 0 ∧
  p.channelZ = (decide (b 2 1 / 16 % 8 = 0) || decide (b 2 1 / 16 % 2 = 1)) ∧
  p.channelN = decide (b 2 1 / 32 % 2 = 1) ∧ p.channelE = decide (b 2 1 / 64 % 2 = 1) ∧
  p.sShort = held 2 6 (b 3 1 % 16) ∧ p.sLong = held 8 12 (b 3 1 / 16 % 16) ∧ p.latency = b 4 2 ∧
  p.rOn = held 24 255 (b 6 1) ∧ p.rOff = min (held 16 255 (b 7 1)) p.rOn ∧ p.floor = b 8 2 ∧
  p.W = held 1 80 (b 10 1) ∧ p.V = held 2 28 (b 11 1) ∧ p.gain = held 1 32 (b 12 1) ∧
  p.maxDuration = held 10 600 (b 13 4 % 1024) ∧ p.E = held 30 600 (b 13 4 / 1024 % 1024) ∧
  p.qMax = held 0 600 (b 13 4 / 1048576 % 1024) ∧ p.strong = held 0 8388607 (b 17 3) ∧
  p.pattern1 = BitVec.ofNat 12 (b 20 2 % 4096) ∧ p.length1 = nearestLength (b 20 2 / 4096 % 16) ∧
  p.pattern2 = BitVec.ofNat 12 (b 22 2 % 4096) ∧ p.length2 = nearestLength (b 22 2 / 4096 % 16) ∧
  p.capacity = held 1000 200000 (b 24 4 % 262144) ∧
  p.D = held 50 1000 (b 24 4 / 262144 % 1024 - b 24 4 / 262144 % 1024 % 50) ∧
  p.holdoff = b 24 4 / 268435456 % 16 ∧ p.vFull = held 10000 30000 (b 28 2) ∧ p.iTaper = held 0 10000 (b 30 2) ∧
  p.vShed = held 6000 24000 (b 32 2) ∧ p.chargeMin = heldTemp (b 34 3 % 4096) ∧
  p.chargeMax = max (heldTemp (b 34 3 / 4096 % 4096)) p.chargeMin ∧ p.warmSetpoint = heldTemp (b 37 3 % 4096) ∧
  p.enclosureSetpoint = heldTemp (b 37 3 / 4096 % 4096) ∧ p.rating0 = held 1 32767 (b 40 2) ∧
  p.rating1 = held 1 32767 (b 42 2) ∧ p.bVault = b 44 2 ∧
  changed = [decide (b 2 1 % 4 = 3), decide (b 2 1 / 4 % 4 = 3), decide (b 2 1 / 16 % 8 = 0),
    decide (b 3 1 % 16 ≠ p.sShort), decide (b 3 1 / 16 % 16 ≠ p.sLong), decide (b 6 1 ≠ p.rOn), decide (b 7 1 ≠ p.rOff),
    decide (b 10 1 ≠ p.W), decide (b 11 1 ≠ p.V), decide (b 12 1 ≠ p.gain), decide (b 13 4 % 1024 ≠ p.maxDuration),
    decide (b 13 4 / 1024 % 1024 ≠ p.E), decide (b 13 4 / 1048576 % 1024 ≠ p.qMax), decide (b 17 3 ≠ p.strong),
    decide (b 20 2 / 4096 % 16 ≠ p.length1), decide (b 22 2 / 4096 % 16 ≠ p.length2),
    decide (b 24 4 % 262144 ≠ p.capacity), decide (b 24 4 / 262144 % 1024 ≠ p.D), decide (b 28 2 ≠ p.vFull),
    decide (b 30 2 ≠ p.iTaper), decide (b 32 2 ≠ p.vShed), tempMoved (b 34 3 % 4096) p.chargeMin,
    tempMoved (b 34 3 / 4096 % 4096) p.chargeMax, tempMoved (b 37 3 % 4096) p.warmSetpoint,
    tempMoved (b 37 3 / 4096 % 4096) p.enclosureSetpoint, decide (b 40 2 ≠ p.rating0),
    decide (b 42 2 ≠ p.rating1)].count true

/-- A second boundary whose event may be issued has just fallen: counting has made the subsecond reach or pass 0, and the
present second lies later than the latest one whose event was issued (R4, R22). -/
def State.atBoundary (s : State) : Prop :=
  s.clock.time.sub < s.clock.advanced ∧
    ∀ b, s.clock.latestBoundary = some b → 0 < (s.clock.time.sec - b).toInt

/-- A character's samples read back, at sample 8 of each bit time, the levels that the attempt in progress sends in it;
nothing is asked while nothing is sent (R38). -/
def State.readsBackEqual (s : State) (w : BitVec 169) : Prop :=
  ∀ f run, s.trunk.tx = .sending f run →
    ∀ k, k < 11 → w.getLsbD (16 * k + 7) = s.sentLevel f run (11 * run.chars + k)

/-- `t` is `s` after a drive fault of the attempt that sends this frame, whose request is this one (R40, R68). -/
def State.faultedDrive (s t : State) (f : TxFrame) (r : Request) : Prop :=
  t = { s with
    trunk := { s.trunk with
      tx := .idle, own := false, releasing := true, assembler := .noFrame, receiver := .waitRecessive
      dominant := false, run := 0, tail := 0
      counters := { s.trunk.counters with driveFaults := s.trunk.counters.driveFaults.increase } }
    sched := { s.sched with slots := s.sched.slots.set f.kind (.ready { r with
      attempts := min (r.attempts + 1) 255 }) } }

/-- What the line shows at the end of a character that the receiver takes while the station does not send. -/
def State.takesCharacter (s : State) (w : BitVec 169) (c : Time) : Prop :=
  s.isSettled = true ∧ (∃ n, s.trunk.receiver = .inChar n c) ∧ w.getLsbD 7 = false ∧
    ∀ f r, s.trunk.tx ≠ .sending f r

/-- The trunk controller after a character's samples, with this receiver, assembler and counters. -/
def Trunk.after (t : Trunk) (w : BitVec 169) (receiver : Receiver) (assembler : Assembler)
    (counters : LinkCounters) : Trunk :=
  { t with
    dominant := !w.getLsbD 168, run := runAfter w 169, tail := 8, receiver := receiver, assembler := assembler
    counters := counters }

/-- The peer table is free and this entry is the oldest of its queue (R46). -/
def State.takesEntry (s : State) (e : InEntry) (rest : List InEntry) : Prop :=
  s.isSettled = true ∧ s.loader.phase = .running ∧ s.peers.hand = none ∧ s.peers.queue = e :: rest

/-- The time part that a BEACON's entry gives its sender's row (R51, R52, R53, R202). -/
def InEntry.timePart (e : InEntry) : TimePart :=
  let stamp : Time := ⟨BitVec.ofNat 32 (field e.body 0 4), field e.body 4 3⟩
  { cls := TimeClass.ofCode (field e.body 7 1 % 8)
    clockCode := field e.body 7 1 / 8 % 8
    stage := Stage.ofCode (field e.body 7 1 / 64 % 4)
    soc := min (field e.body 8 1) 100
    disturbed := decide (field e.body 9 1 % 2 = 1)
    defaultProfile := decide (field e.body 9 1 / 2 % 2 = 1)
    conflict := decide (field e.body 9 1 / 4 % 2 = 1)
    offset := if stamp.sub < 10000000
      then max (-2147483647) (min (10000000 * (e.capture.sec - stamp.sec).toInt
        + ((e.capture.sub : Int) - (stamp.sub : Int))) 2147483647)
      else 0
    stale := decide (TimeClass.ofCode (field e.body 7 1 % 8) = .t4) || decide (10000000 ≤ stamp.sub)
    age := 0 }

/-- The peer table with its oldest entry taken and this time part in a row. -/
def State.withTimePart (s : State) (rest : List InEntry) (n : Station) (p : TimePart) : State :=
  { s with peers := ({ s.peers with queue := rest } : Peers).setRow n { s.peers.row n with time := some p } }

/-- The entry passes the filter: another station's number of the peer set (R48, test 4). -/
def State.passes (s : State) (e : InEntry) : Prop :=
  e.sender.toNat < 14 ∧ e.sender.toNat ≠ s.loader.station.val ∧ s.loader.profile.peerSet.getLsbD e.sender.toNat = true

/-- A tick point has just fallen, and it lies later than the latest tick issued (R88, R90). -/
def State.atTick (s : State) (p : Time) : Prop :=
  s.clock.time.sub % 100000 < s.clock.advanced ∧
    p = ⟨s.clock.time.sec, s.clock.time.sub - s.clock.time.sub % 100000⟩ ∧
    ∀ q, s.intake.latestTick = some q → 0 < p.diff q

/-- The estimate of a channel after a value, where the channel is enabled (R95, step 1). -/
def estimateAfter (on : Bool) (m x : Int) : Int := if on then m + (x * 256 - m) / 1024 else m

/-- The magnitude of an enabled channel's deviation from its new estimate, and 0 of one that is not enabled
(R95, step 2; R96). -/
def magnitude (on : Bool) (m x : Int) : Nat :=
  if on then (max (-8388607) (min (x - m / 256) 8388607)).natAbs else 0

/-- The detector after the arithmetic of a set, with the averages as R95 to R100 give them. -/
def State.arithmetic (s : State) (v : Sample) (d : Detector) (c : Nat) : Prop :=
  d.dcZ = estimateAfter s.loader.profile.channelZ s.detector.dcZ v.z ∧
  d.dcN = estimateAfter s.loader.profile.channelN s.detector.dcN v.n ∧
  d.dcE = estimateAfter s.loader.profile.channelE s.detector.dcE v.e ∧
  c = max (magnitude s.loader.profile.channelZ d.dcZ v.z)
    (max (magnitude s.loader.profile.channelN d.dcN v.n) (magnitude s.loader.profile.channelE d.dcE v.e)) ∧
  (d.S : Int) = (s.detector.S : Int) + ((c : Int) * 256 - (s.detector.S : Int)) / 2 ^ s.loader.profile.sShort ∧
  ((s.detector.state = .warmup ∨ s.detector.state = .armed) →
    (d.L : Int) = (s.detector.L : Int) + ((c : Int) * 256 - (s.detector.L : Int)) / 2 ^ s.loader.profile.sLong) ∧
  (s.detector.state ≠ .warmup → s.detector.state ≠ .armed → d.L = s.detector.L) ∧
  d.ratio = (if max d.L (s.loader.profile.floor * 256) = 0 then 255
    else min (16 * d.S / max d.L (s.loader.profile.floor * 256)) 255)

/-- A detector with the estimates, the averages and the ratio of another. -/
def Detector.averaged (d0 d : Detector) : Detector :=
  { d0 with dcZ := d.dcZ, dcN := d.dcN, dcE := d.dcE, S := d.S, L := d.L, ratio := d.ratio }

/-- A trigger record after one more set with this characteristic (R107, steps 1 and 2). -/
def TriggerRecord.after (r : TriggerRecord) (c : Nat) : TriggerRecord :=
  { r with
    duration := r.duration + 1, peak := max r.peak c
    peakOffset := if r.peak < c then r.duration + 1 else r.peakOffset }

/-- `t` is `s` in what a trigger end with this record tells the other blocks, where the CODA slot is empty: the summary on
the own row's trigger part, if that part holds the onset, the peak request, the CODA request, and the heater controller's
notice (R112, R121, R182). -/
def State.tellsEnd (s t : State) (r : TriggerRecord) : Prop :=
  (∀ p, (s.peers.row s.loader.station).trigger = some p → p.onset = r.onset →
    t.peers = s.peers.setRow s.loader.station { s.peers.row s.loader.station with
      trigger := some { p with summary := some ⟨r.peak, r.peakOffset, r.duration, r.reason⟩ } }) ∧
  ((∀ p, (s.peers.row s.loader.station).trigger = some p → p.onset ≠ r.onset) → t.peers = s.peers) ∧
  t.co = { s.co with waiting := s.co.waiting ++ [.peak .detector s.loader.station r.onset r.peak] } ∧
  (∀ q : Request,
    q = { body := codaBody r, ref := .stamp r.onset, time := s.clock.time, deadline := none, attempts := 0
          capture := none, mark := false } →
    t.sched = { s.sched with slots := { s.sched.slots with coda := .ready q } }) ∧
  t.heater.triggered = false ∧ t.heater.eventOpen = s.heater.eventOpen ∧
  t.heater.hold = (if s.heater.triggered = true ∧ s.heater.eventOpen = false then .idle else s.heater.hold)

/-- The strong test passes for this record, on account of this open event (R108). -/
def State.isStrong (s : State) (r : TriggerRecord) (e : Event) : Prop :=
  r.strongReported = false ∧ s.loader.profile.strong ≤ r.peak ∧ s.openEvent = some e ∧ e.level = 1 ∧
    e.members[s.loader.station.val] = some r.onset

/-- This request is the oldest of those that wait for the coincidence unit (R121). -/
def State.takesRequest (s : State) (r : CoRequest) (rest : List CoRequest) : Prop :=
  s.isSettled = true ∧ s.loader.phase = .running ∧ s.co.waiting = r :: rest

/-- The peer table after a coincidence operation: free again where the request was its own (R46, R121). -/
def Peers.doneFor (p : Peers) (source : Source) : Peers :=
  if source = .peerTable then { p with hand := none } else p

/-- The weight of an eligible part: 2 for class T0 or T1, 1 for T2 (table of R120). -/
def TriggerPart.votingWeight (p : TriggerPart) : Nat := if p.cls = .t2 then 1 else 2

/-- A record with a part taken in: contributor, member onset, weight and peak (R123, R133). -/
def Event.joined (e : Event) (n : Station) (p : TriggerPart) : Event :=
  { e with
    contributors := e.contributors ||| BitVec.twoPow 14 n.val
    members := e.members.set n.val (some p.onset) n.isLt
    weight := min (e.weight + p.votingWeight) 255
    peak := match p.summary, e.peak with
      | none, x => x
      | some y, none => some y.peak
      | some y, some x => some (max x y.peak) }

/-- The eligible trigger parts whose onset passes a test, by station number (R120). -/
def State.eligibleWhere (s : State) (test : Time → Bool) : List Member :=
  stations.filterMap (fun n => (s.peers.row n).trigger.bind (fun p =>
    if p.consumed = false ∧ p.disturbed = false ∧ p.cls ≠ .t3 ∧ p.cls ≠ .t4 ∧ test p.onset = true
    then some ⟨n, p⟩ else none))

/-- The candidates of a vote: the eligible parts within W of the anchor's onset (R120, R124). -/
def State.candidateSet (s : State) (onset : Time) : List Member :=
  s.eligibleWhere (fun t => decide ((t.diff onset).natAbs ≤ 1000000 * s.loader.profile.W))

/-- The eligible parts in the span of an event with this origin (R119, R137). -/
def State.spanSet (s : State) (origin : Time) : List Member :=
  s.eligibleWhere (fun t => decide (-(1000000 * (s.loader.profile.W : Int)) ≤ t.diff origin ∧
    t.diff origin ≤ 10000000 * (s.loader.profile.E : Int)))

/-- The sum of the candidates' weights (R124). -/
def weightSum (ms : List Member) : Nat := (ms.map (fun m => m.part.votingWeight)).sum

/-- The member with the earliest onset, of equal ones that of the lowest station (R125). -/
def isOrigin (ms : List Member) (o : Member) : Prop :=
  o ∈ ms ∧ ∀ m ∈ ms, m.station ≠ o.station →
    (o.part.onset.diff m.part.onset < 0 ∧ 0 < m.part.onset.diff o.part.onset) ∨
    (o.part.onset.diff m.part.onset = 0 ∧ m.part.onset.diff o.part.onset = 0 ∧ o.station < m.station)

/-- A record with these members taken in, one after another (R126, R127). -/
def Event.joinedAll (e : Event) (ms : List Member) : Event := ms.foldl (fun e m => e.joined m.station m.part) e

/-- An adopted record with these parts swept in; the weight of a station of the heard set is not added (R137). -/
def Event.sweptAll (e : Event) (heard : BitVec 14) (ms : List Member) : Event :=
  ms.foldl (fun e m => { e.joined m.station m.part with
    weight := min (e.weight + if heard.getLsbD m.station.val then 0 else m.part.votingWeight) 255 }) e

/-- `q` is `p` with these members' trigger parts consumed (R120). -/
def Peers.consumedBy (p q : Peers) (ms : List Member) : Prop :=
  (∀ m ∈ ms, q.row m.station = { p.row m.station with trigger := some { m.part with consumed := true } }) ∧
  (∀ n, (∀ m ∈ ms, m.station ≠ n) → q.row n = p.row n) ∧ q = { p with rows := q.rows }

/-- The rank of a station in a record: how many members come before it by onset and then by number, or, for no member,
the count of the members and its own number (R143). -/
def Event.position (e : Event) (own : Station) : Nat :=
  match e.members[own.val] with
  | some t => stations.countP (fun n => match e.members[n.val] with
    | some u => decide (u.diff t < 0 ∨ u.diff t = 0 ∧ n < own)
    | none => false)
  | none => stations.countP (fun n => (e.members[n.val]).isSome) + own.val

/-! ### The outcomes of the alert unit's requests -/

/-- The slot that holds the requests of a tracking kind (R63, R70). -/
def AlertKind.holder : AlertKind → TxKind
  | .alert => .alert
  | .raise => .alertRaise

/-- The outcome that a kind's requests have in a record (R139). -/
def Event.outcomeOf (e : Event) : AlertKind → AlertOutcome
  | .alert => e.alertOutcome
  | .raise => e.raiseOutcome

/-- A record with that outcome set. -/
def Event.withOutcome (e : Event) (j : AlertKind) (o : AlertOutcome) : Event :=
  match j with
  | .alert => { e with alertOutcome := o }
  | .raise => { e with raiseOutcome := o }

/-- The counter of a final outcome, increased (table of R157). -/
def AlertCounters.increased (c : AlertCounters) (j : AlertKind) (o : AlertOutcome) : AlertCounters :=
  match j with
  | .alert => { c with
      alertsSent := if o = .sent then min (c.alertsSent + 1) 65535 else c.alertsSent
      alertsYielded := if o = .yielded then min (c.alertsYielded + 1) 65535 else c.alertsYielded
      alertsLapsed := if o = .lapsed then min (c.alertsLapsed + 1) 65535 else c.alertsLapsed }
  | .raise => { c with
      raisesSent := if o = .sent then min (c.raisesSent + 1) 65535 else c.raisesSent
      raisesYielded := if o = .yielded then min (c.raisesYielded + 1) 65535 else c.raisesYielded
      raisesLapsed := if o = .lapsed then min (c.raisesLapsed + 1) 65535 else c.raisesLapsed }

/-- The tracking list without its entry of a kind and a serial (R146). -/
def Alerts.untracked (a : Alerts) (j : AlertKind) (serial : BitVec 8) : List Tracking :=
  a.tracking.eraseP (fun x => decide (x.kind = j) && decide (x.serial = serial))

/-- `t` is `s` after the final report on a request that the alert unit tracks: the entry goes; an outcome not yet final is
set and counted, by the withdrawal's cause where there was one; a record no longer in the list is counted alone; and a
SENT raise is reported to the coincidence unit (R146, R151, R157). -/
def State.alertTold (s t : State) (j : AlertKind) (serial : BitVec 8) (o : SendOutcome) : Prop :=
  ∀ (x : Tracking) (out : AlertOutcome),
    s.alerts.tracking.find? (fun x => decide (x.kind = j) && decide (x.serial = serial)) = some x →
    out = (match o with
      | .sent => .sent
      | .withdrawn => if x.cause = .yield then .yielded else .lapsed
      | .superseded => .lapsed
      | .expired => .lapsed) →
    ((∀ e, s.event serial = some e →
        e.outcomeOf j ≠ .sent ∧ e.outcomeOf j ≠ .yielded ∧ e.outcomeOf j ≠ .lapsed) →
      t.alerts = { s.alerts with
        tracking := s.alerts.untracked j serial, counters := s.alerts.counters.increased j out } ∧
      t.co.events = s.co.events.map (fun y => if y.serial = serial then y.withOutcome j out else y)) ∧
    (∀ e, s.event serial = some e →
        (e.outcomeOf j = .sent ∨ e.outcomeOf j = .yielded ∨ e.outcomeOf j = .lapsed) →
      t.alerts = { s.alerts with tracking := s.alerts.untracked j serial } ∧ t.co.events = s.co.events) ∧
    t.co = { s.co with
      events := t.co.events
      waiting := if j = .raise ∧ o = .sent then s.co.waiting ++ [.raiseSent serial] else s.co.waiting }

/-- `t` is `s` in the requesting blocks, after the scheduler's report on a request of this kind and reference (R71, R114,
R146, R178, R198). -/
def State.told (s t : State) (k : TxKind) (ref : Ref) (o : SendOutcome) : Prop :=
  (∀ j serial, k = j.holder → ref = .serial serial → o ≠ .expired → s.alertTold t j serial o) ∧
  (k ≠ .alert → k ≠ .alertRaise → t.alerts = s.alerts ∧ t.co = s.co) ∧
  (∀ n, k = .heat → ref = .demand n → t.heater = (match o with
    | .sent => { s.heater with
        announced := some n
        counters := { s.heater.counters with sent := min (s.heater.counters.sent + 1) 65535 } }
    | .superseded => { s.heater with
        counters := { s.heater.counters with notSent := min (s.heater.counters.notSent + 1) 65535 } }
    | .expired => { s.heater with
        counters := { s.heater.counters with notSent := min (s.heater.counters.notSent + 1) 65535 } }
    | .withdrawn => s.heater)) ∧
  (k ≠ .heat → t.heater = s.heater) ∧
  (k = .reply → o ≠ .withdrawn → t.service = { s.service with
    pendingReply := none
    counters := if o = .sent
      then { s.service.counters with sent := min (s.service.counters.sent + 1) 65535 }
      else { s.service.counters with expired := min (s.service.counters.expired + 1) 65535 } }) ∧
  (k ≠ .reply → t.service = s.service) ∧
  (k = .onset → o = .superseded → t.detector = { s.detector with counters := { s.detector.counters with
    onsetNotSent := min (s.detector.counters.onsetNotSent + 1) 65535 } }) ∧
  (k = .coda → o = .superseded → t.detector = { s.detector with counters := { s.detector.counters with
    codaNotSent := min (s.detector.counters.codaNotSent + 1) 65535 } }) ∧
  ((k ≠ .onset ∧ k ≠ .coda ∨ o ≠ .superseded) → t.detector = s.detector)

/-- `t` is `s` after a request found READY or waiting has been withdrawn: the slot holds what is left, the record's outcome
is final and counted, and the entry goes (R70, R146, R147, R149, R152). -/
def State.tookBack (s t : State) (j : AlertKind) (serial : BitVec 8) (r : Request) (left : Slot) (o : AlertOutcome) :
    Prop :=
  t = { s with
    sched := { s.sched with
      slots := s.sched.slots.set j.holder left
      history := (⟨j.holder, r.time, r.capture, r.attempts, .withdrawn⟩ :: s.sched.history).take 8 }
    co := { s.co with events := s.co.events.map (fun y => if y.serial = serial then y.withOutcome j o else y) }
    alerts := { s.alerts with
      tracking := s.alerts.untracked j serial, counters := s.alerts.counters.increased j o } }

/-- `t` is `s` after the alert unit has withdrawn the pending request of a record: READY or waiting, it is taken back;
in flight, it is marked and the cause recorded, unless one already is, and the outcome stays PENDING; held nowhere,
nothing changes (R70, and the PENDING rows of R147, R149 and R152). -/
def State.takesBack (s t : State) (j : AlertKind) (serial : BitVec 8) (cause : Cause) (o : AlertOutcome) : Prop :=
  (∀ r, s.sched.slots.get j.holder = .ready r → r.ref = .serial serial → s.tookBack t j serial r .empty o) ∧
  (∀ f r, s.sched.slots.get j.holder = .inFlight f (some r) → f.ref ≠ .serial serial → r.ref = .serial serial →
    s.tookBack t j serial r (.inFlight f none) o) ∧
  (∀ f w, s.sched.slots.get j.holder = .inFlight f w → f.ref = .serial serial → t = { s with
    sched := { s.sched with slots := s.sched.slots.set j.holder (.inFlight { f with mark := true } w) }
    alerts := { s.alerts with tracking := s.alerts.tracking.map (fun x =>
      if x.kind = j ∧ x.serial = serial ∧ x.cause = .none then { x with cause := cause } else x) } }) ∧
  ((s.sched.slots.get j.holder = .empty ∨
      (∃ r, s.sched.slots.get j.holder = .ready r ∧ r.ref ≠ .serial serial) ∨
      (∃ f w, s.sched.slots.get j.holder = .inFlight f w ∧ f.ref ≠ .serial serial ∧
        ∀ r, w = some r → r.ref ≠ .serial serial)) → t = s)

/-- `v` is `s` after the record `e` has closed: its open flag clear, and its alert outcome and then its raise outcome
resolved: DEFERRING lapses with its timer, PENDING is withdrawn, any other stands (R131, R149; assumption log 41). -/
def State.closes (s v : State) (e : Event) : Prop :=
  ∃ c u : State,
    c = { s with co := { s.co with events := s.co.events.map (fun x =>
      if x.serial = e.serial then { x with isOpen := false } else x) } } ∧
    (e.alertOutcome = .deferring → u = { c with
      co := { c.co with events := c.co.events.map (fun x =>
        if x.serial = e.serial then { x with alertOutcome := .lapsed } else x) }
      alerts := { s.alerts with
        deference := s.alerts.deference.filter (fun d => decide (d.serial ≠ e.serial))
        counters := { s.alerts.counters with alertsLapsed := min (s.alerts.counters.alertsLapsed + 1) 65535 } } }) ∧
    (e.alertOutcome = .pending → c.takesBack u .alert e.serial .lapse .lapsed) ∧
    (e.alertOutcome ≠ .deferring → e.alertOutcome ≠ .pending → u = c) ∧
    (e.raiseOutcome = .pending → u.takesBack v .raise e.serial .lapse .lapsed) ∧
    (e.raiseOutcome ≠ .pending → v = u)

/-- No frame is held for the open record, if there is one, so its closing withdraws none (R149). -/
def State.closesQuietly (s : State) : Prop :=
  ∀ e, s.openEvent = some e → s.event e.serial = some e ∧ e.alertOutcome ≠ .pending ∧ e.raiseOutcome ≠ .pending ∧
    (e.alertOutcome = .deferring → ∃ x, s.alerts.deference = some ⟨e.serial, x⟩)

/-- The list of records after the open one, if there is one, has closed by replacement (R130, R131, R149). -/
def State.eventsClosed (s : State) : List Event :=
  match s.openEvent with
  | none => s.co.events
  | some e => s.co.events.map (fun x => if x.serial = e.serial then { x with
      isOpen := false, alertOutcome := if e.alertOutcome = .deferring then .lapsed else x.alertOutcome } else x)

/-- `t` is `s` in what a new record changes of the annunciator and the heater controller: they are told only where no event
was open, and a deferring alert of the record that closed lapses (R130, R149, R154, R182). -/
def State.openedAfter (s t : State) : Prop :=
  (s.openEvent = none → t.heater.eventOpen = true ∧ t.alerts.annState = .waiting ∧ t.alerts.ann = false ∧
    t.alerts.counters = s.alerts.counters) ∧
  (∀ e, s.openEvent = some e → t.heater = s.heater ∧ t.alerts.annState = s.alerts.annState ∧
    t.alerts.ann = s.alerts.ann ∧ t.alerts.slot = s.alerts.slot ∧ t.alerts.level = s.alerts.level ∧
    t.alerts.counters = if e.alertOutcome = .deferring
      then { s.alerts.counters with alertsLapsed := min (s.alerts.counters.alertsLapsed + 1) 65535 }
      else s.alerts.counters)

/-- The deference timer after a new record has entered: cleared where it held the record that closed, or the one that
eight records lose (R149, R150). -/
def State.timerAfter (s : State) : Option Deference :=
  s.alerts.deference.filter (fun x =>
    !(s.openEvent.any (fun e => decide (e.alertOutcome = .deferring) && decide (e.serial = x.serial))) &&
    !(decide (8 ≤ s.co.events.length) && s.co.events.getLast?.any (fun e => decide (e.serial = x.serial))))

/-- An eligible anchor of this request, outside any open event's span (R120, R122, R123). -/
def State.votes (s : State) (source : Source) (n : Station) (onset : Time) (rest : List CoRequest) : Prop :=
  s.takesRequest (.vote source n onset) rest ∧
    (∃ p, (s.peers.row n).trigger = some p ∧ p.onset = onset ∧ p.consumed = false ∧ p.disturbed = false ∧
      p.cls ≠ .t3 ∧ p.cls ≠ .t4) ∧
    ∀ e, s.openEvent = some e → onset.diff e.origin < -(1000000 * (s.loader.profile.W : Int)) ∨
      10000000 * (s.loader.profile.E : Int) < onset.diff e.origin

/-- A second boundary event at a second divisible by 10 has brought a computation that is still to be made (R174). -/
def State.computes (s : State) : Prop :=
  s.isSettled = true ∧ s.loader.phase = .running ∧ s.heater.computationDue = true

/-- A heater output is to be driven: RUNNING, in NORMAL or CONSERVE, no hold, the subsecond inside the window (R184). -/
def State.drives (s : State) (offset steps : Nat) : Prop :=
  s.loader.phase = .running ∧ (s.battery.stage = .normal ∨ s.battery.stage = .conserve) ∧
    (∀ x, s.heater.hold ≠ .holding x) ∧
    ((s.clock.time.sub : Int) - (offset : Int)) % 10000000 < 312500 * (steps : Int)

/-! ### The pages of the service topics (R204) -/

/-- A field of a page: its value, where a rule states one, and its size in bytes. -/
abbrev PageField := Option Int × Nat

/-- A field of one byte. -/
def byteField (x : Nat) : PageField := (some x, 1)

/-- A field of two bytes. -/
def wordField (x : Nat) : PageField := (some x, 2)

/-- A time stamp (R200). -/
def stampFields (t : Time) : List PageField := [(some t.sec.toNat, 4), (some t.sub, 3)]

/-- Data bytes hold these fields from an offset on, least significant byte first and signed numbers in two's complement,
and 0 in every byte beyond the last (R200, R204); a field without a stated value may hold anything. -/
def holdsFields (data : List Byte) : Nat → List PageField → Prop
  | o, [] => ∀ k, o ≤ k → k < 16 → data.getD k 0 = 0
  | o, (x, n) :: rest => (∀ v, x = some v → (field data o n : Int) = v % 256 ^ n) ∧ holdsFields data (o + n) rest

/-- A trigger part as topic 5 lays it out (R204). -/
def triggerFields (p : TriggerPart) : List PageField :=
  [byteField (p.cls.code + 8 * bit p.disturbed + 16 * bit p.inexact + 32 * bit p.consumed
      + 64 * (p.summary.elim 0 (fun x => x.reason.code)))]
    ++ stampFields p.onset ++ [byteField p.ratio, (some (p.summary.elim 0 (fun x => (x.peak : Int))), 3),
      wordField (p.summary.elim 0 (fun x => x.peakOffset)), wordField (p.summary.elim 0 (fun x => x.duration))]

/-- The members of a record, by station number (R204). -/
def Event.onsets (e : Event) : List (Station × Time) :=
  stations.filterMap (fun n => (e.members[n.val]).map (fun t => (n, t)))

/-- The pages of the identity, clock and step log topics, 0 to 2 (R204). -/
def State.clockPages (s : State) (topic index page : Nat) : List PageField :=
  if topic = 0 ∧ page = 0 then
    [byteField (s.loader.station.val + 16 * s.loader.rawStrap.toNat),
     byteField (bit s.loader.fast + 2 * s.loader.outcome.code + 8 * s.loader.attemptsUsed
       + 32 * bit s.loader.defaultFlag + 64 * bit s.peers.conflict + 128 * bit s.loader.disturbed),
     byteField s.loader.clamped, byteField (s.loader.disturbedTimer + 128 * bit s.loader.filteredOpen),
     wordField s.loader.openings, wordField s.service.counters.taken, wordField s.service.counters.refused,
     wordField s.service.counters.busyDrops, wordField s.service.counters.sent, wordField s.service.counters.expired]
  else if topic = 0 then (List.range 16).map (fun k => byteField (field s.loader.image.toList (16 * (page - 1) + k) 1))
  else if topic = 1 ∧ page = 0 then
    [byteField (s.clock.state.code + 16 * s.timeClass.code), (some s.clock.F, 2), (some s.clock.P, 1),
     wordField s.clock.age, byteField s.clock.returnCount, wordField s.clock.epoch.toNat] ++ stampFields s.clock.time
  else if topic = 1 then
    [wordField s.clock.counters.outliers, wordField s.clock.counters.badRecords,
     wordField s.clock.counters.missingRecords, wordField s.clock.counters.corrections,
     wordField s.clock.counters.steps, wordField s.clock.counters.losses]
  else match s.clock.log[index]? with
    | some e => stampFields e.time ++ [(some e.size, 4), byteField e.cause.code]
    | none => []

/-- The pages of the detector and intake topic, 3; page 1 without a trigger record has no stated field (R204). -/
def State.detectorPages (s : State) (page : Nat) : List PageField :=
  if page = 0 then
    [byteField (s.detector.state.code + 16 * s.intake.state.code), (some s.detector.S, 4), (some s.detector.L, 4),
     byteField s.detector.ratio,
     wordField (if s.detector.state = .warmup then s.detector.warmup
       else if s.detector.state = .holdoff then s.detector.holdoff else 0),
     byteField s.intake.store.length, byteField s.loader.profile.depth, byteField (bit s.detector.record.isSome)]
  else if page = 1 then
    match s.detector.record with
    | some r =>
      [byteField (r.cls.code + 8 * bit r.disturbed + 16 * bit r.inexact + 32 * bit r.strongReported
        + 64 * r.reason.code)] ++ stampFields r.onset
        ++ [byteField r.ratio, (some r.peak, 3), wordField r.peakOffset, wordField r.duration]
    | none => [(none, 16)]
  else if page = 2 then
    [wordField s.detector.counters.onsets, wordField s.detector.counters.forcedEnds,
     wordField s.detector.counters.haltedEnds, wordField s.detector.counters.strongReports,
     wordField s.detector.counters.onsetNotSent, wordField s.detector.counters.codaNotSent,
     wordField s.detector.counters.warmups]
  else
    [wordField s.intake.counters.incomplete, wordField s.intake.counters.slipDrops,
     wordField s.intake.counters.slipRepeats, wordField s.intake.counters.stalls]

/-- The pages of the event topic, 4 (R129, R204; page 8 by the index, assumption log 40). -/
def State.eventPages (s : State) (index page : Nat) : List PageField :=
  if page = 0 then
    match s.co.events[index]? with
    | some e =>
      [byteField (2 * bit e.adopted + 4 * bit e.isOpen + 8 * bit e.peak.isSome + 16 * e.originStation.val),
       byteField (e.alertOutcome.code + 8 * e.raiseOutcome.code + 64 * bit (decide (e.level = 2))),
       byteField e.serial.toNat, byteField e.weight, wordField e.contributors.toNat] ++ stampFields e.origin
        ++ [(e.peak.map (fun p => (p : Int)), 3)]
    | none => [byteField 1]
  else if page < 8 then
    match s.co.events[index]? with
    | some e => ((e.onsets.drop (2 * (page - 1))).take 2).flatMap (fun m => byteField m.1.val :: stampFields m.2)
    | none => []
  else if page = 8 then
    (match s.co.events[index]? with
      | some e => stampFields e.declaredAt ++ [byteField e.onsets.length]
      | none => [(some 0, 8)]) ++ [byteField s.co.serial.toNat, byteField (bit s.openEvent.isSome)]
  else if page = 9 then
    [wordField s.co.counters.declarations, wordField s.co.counters.adoptions, wordField s.co.counters.joins,
     wordField s.co.counters.folds, wordField s.co.counters.dropped, wordField s.co.counters.malformed,
     wordField s.co.counters.unmatchedRaises]
  else if page = 10 then
    [wordField s.alerts.counters.alertsSent, wordField s.alerts.counters.alertsYielded,
     wordField s.alerts.counters.alertsLapsed, wordField s.alerts.counters.raisesSent,
     wordField s.alerts.counters.raisesYielded, wordField s.alerts.counters.raisesLapsed,
     wordField s.alerts.counters.declinedStrong]
  else
    [byteField (s.alerts.annState.code + 4 * bit (decide (s.alerts.level = 2)) + 8 * bit s.alerts.deference.isSome),
     byteField s.alerts.slot]
      ++ (match s.alerts.deference with
        | some x => byteField x.serial.toNat :: stampFields x.expiry
        | none => [])

/-- The pages of the peer row topic, 5; the fields of an absent part have no stated value (R50, R204). -/
def Row.pages (r : Row) (page : Nat) : List PageField :=
  if page = 0 then
    [byteField (bit r.time.isSome + 2 * bit r.trigger.isSome + 4 * bit r.heat.isSome
      + 8 * bit (r.trigger.any (fun p => p.summary.isSome)))]
    ++ (match r.time with
      | some p =>
        [byteField (p.cls.code + 8 * p.clockCode + 64 * p.stage.code), byteField p.soc,
         byteField (bit p.disturbed + 2 * bit p.defaultProfile + 4 * bit p.conflict + 8 * bit p.stale),
         (some p.offset, 4), byteField p.age]
      | none => [(none, 8)])
    ++ (match r.heat with
      | some p => [wordField p.demand, wordField p.urgent, byteField p.age]
      | none => [(none, 5)])
  else match r.trigger with
    | some p => triggerFields p
    | none => [(none, 9)]

/-- The pages of the battery and heater topic, 6 (R172, R187, R204). -/
def State.powerPages (s : State) (page : Nat) : List PageField :=
  if page = 0 then
    [(s.battery.voltage, 2), (s.battery.current, 2), (s.battery.batteryTemp, 2), (s.battery.enclosureTemp, 2),
     byteField (bit s.battery.voltage.isNone + 2 * bit s.battery.current.isNone + 4 * bit s.battery.batteryTemp.isNone
       + 8 * bit s.battery.enclosureTemp.isNone + 16 * bit s.battery.batteryFault
       + 32 * bit s.battery.enclosureFault + 64 * bit s.battery.learned),
     (some s.battery.Q, 4), byteField (100 * s.battery.Q / (3600 * s.loader.profile.capacity)),
     byteField (s.battery.stage.code + 4 * bit s.battery.chgen + 8 * bit s.battery.loadoff), byteField s.battery.low]
  else if page = 1 then
    [wordField s.battery.full, byteField s.battery.recovery, wordField s.battery.counters.batteryFaults,
     wordField s.battery.counters.enclosureFaults, wordField s.battery.counters.fullResyncs,
     wordField s.battery.counters.shedEntries, wordField s.battery.counters.stageChanges]
  else if page = 2 then
    [byteField s.heater.h0, byteField s.heater.h1,
     byteField (bit s.heater.h0Urgent + 2 * bit s.heater.announced.isSome + 4 * s.heater.hold.code
       + 16 * bit s.heater.triggered + 32 * bit s.heater.eventOpen + 64 * bit s.heater.out0 + 128 * bit s.heater.out1),
     wordField s.heater.demand, wordField s.heater.urgent, (s.heater.announced.map (fun x => (x : Int)), 2),
     wordField s.heater.grant0, byteField s.heater.steps0, wordField s.heater.grant1, byteField s.heater.steps1]
  else if page = 3 then
    [(some s.heater.U, 3), (some s.heater.Nh, 3), wordField s.heater.budget, wordField s.heater.G]
  else
    [wordField s.heater.counters.sent, wordField s.heater.counters.notSent,
     wordField s.heater.counters.holdsStarted, wordField s.heater.counters.holdsLimited]

/-- The pages of the link counter topic, 7, and of the outbound history topic, 8 (R44, R62, R77, R204). -/
def State.linkPages (s : State) (topic index page : Nat) : List PageField :=
  let c := s.trunk.counters
  if topic = 7 ∧ page = 0 then
    [byteField c.framingErrors.lastSecond, byteField c.checkFailures.lastSecond, byteField c.truncated.lastSecond,
     byteField c.stray.lastSecond, byteField c.losses.lastSecond, byteField c.driveFaults.lastSecond,
     byteField c.overruns.lastSecond, byteField c.conflicts.lastSecond, byteField c.faultSeconds.lastSecond]
  else if topic = 7 ∧ page = 1 then
    [wordField c.framingErrors.total, wordField c.checkFailures.total, wordField c.truncated.total,
     wordField c.stray.total, wordField c.losses.total, wordField c.driveFaults.total, wordField c.overruns.total,
     wordField c.conflicts.total]
  else if topic = 7 then
    [wordField c.faultSeconds.total, wordField s.peers.counters.outside, wordField s.peers.counters.late,
     wordField s.peers.counters.repeated, wordField s.peers.counters.unmatchedCoda]
  else match s.sched.history[index]? with
    | some r =>
      [byteField (r.kind.frame.code + 16 * r.outcome.code + 128 * bit r.capture.isSome), byteField r.attempts]
        ++ stampFields r.time ++ (r.capture.elim [(none, 7)] stampFields)
    | none => [(some 0, 9), (none, 7)]

/-- The fields of a topic's page, in order (R204). -/
def State.pageFields (s : State) (topic index page : Nat) : List PageField :=
  if topic ≤ 2 then s.clockPages topic index page
  else if topic = 3 then s.detectorPages page
  else if topic = 4 then s.eventPages index page
  else if topic = 5 then (s.peers.row (Fin.ofNat 14 index)).pages page
  else if topic = 6 then s.powerPages page
  else s.linkPages topic index page

end Sys2Proof.Machine
end

