-- ==== Sys2Proof/WellFormed.lean ====
section
/-! DEFINITION. Which commands the outside of the part can give. -/

namespace Sys2Proof

/-- The converter reports inside its four ranges (R160). -/
def Readings.wellFormed (r : Readings) : Bool :=
  decide (0 ≤ r.voltage) && decide (r.voltage ≤ 32767) &&
  decide (-32768 ≤ r.current) && decide (r.current ≤ 32767) &&
  decide (-400 ≤ r.batteryTemp) && decide (r.batteryTemp ≤ 850) &&
  decide (-400 ≤ r.enclosureTemp) && decide (r.enclosureTemp ≤ 850)

/-- The part sends three bytes that the memory must acknowledge (R189). -/
def ProfileEnd.wellFormed : ProfileEnd → Bool
  | .stopped _ => true
  | .notAcknowledged byte => decide (byte < 3)
  | .heldLow => true

/-- A command is well formed when its operands are such as the pins can show.
A character begins with the dominant sample of its start edge (R28). -/
def Instr.wellFormed : Instr → Bool
  | .profileAttemptEnd result => result.wellFormed
  | .secondBoundaryEvent inputs => inputs.wellFormed
  | .characterReceived samples => !samples.getLsbD 0
  | .powerOnReset | .pinReset | .resetRelease _ _ _ | .profileReadAttempt | .profileAttemptTimeout | .ppsEdge
  | .edgeMissing | .refrxCharacter _ _ | .refrxGapTimeout | .outlierLimit | .referenceEvaluation | .referenceReturn
  | .referenceLoss | .consecutiveMissingLimit | .holdoverAgeLimit | .peerEvaluation | .lineIdle | .lineFault
  | .choice | .txStart | .arbitrationLoss | .driveFault | .inboundBeacon | .inboundOnset | .inboundCoda
  | .inboundHeat | .inboundAlert | .inboundAlertRaise | .inboundQuery | .inboundReply | .stationConflictExpiry
  | .timePartAgeOut _ | .heatPartAgeOut _ | .triggerPartAgeOut _ | .requestDeadline _ | .beaconCandidatePoint
  | .portFrameOpen | .setArrival _ | .portFrameClose | .tick | .stall | .warmupEnd | .forcedEnd | .holdoffEnd
  | .vote | .heardAlert | .heardAlertRaise | .peakRequest | .eventClosingTime | .closingExpiry | .raiseSent
  | .deferenceExpiry | .annunciatorSlot | .fullResync | .shedEntry | .shedExit | .computation | .announcementPoint
  | .holdLimit | .heaterWindowEdge | .filteredStateChange | .disturbedTimerExpiry | .fallingEdge | .glitch
  | .receiverHuntsAgain | .hatchLevelChange _ => true

end Sys2Proof
end

