-- ==== Sys2Proof/Certificates/Slice0/Obligations.lean ====
section
/-! DEFINITION. The statements for the provers. -/

open Sys2Proof Sys2Proof.Machine

/-! ### The queue and the oscillator -/

/-- With a command at the front of the queue, one step carries out that command on the state with the queue's rest.
The queue is the model's own way of putting commands to the block (assumption log 1). -/
def Obligations.StepRunsFrontCommand : Prop :=
  ∀ (c : Instr) (rest : List Instr) (s : State), s.pending = c :: rest → step s = exec c { s with pending := rest }

/-- With an empty queue and no command of its own due, a released part counts one cycle of OSC10M: station time moves as
R1 and R2 say, the sample accumulator as R26 says, and, unless a failed profile read ends in that cycle
(ProfileReadEnds), only the clock, the trunk controller and the loader change. Where the accumulator comes to 10,000,000
a sample begins: the idle timer counts it, recessive and outside a character, the dominant run counts it, dominant, the
character in progress has one sample more, a hand-over has met a sample boundary, an attempt moves on by a sample, and a
drive fault's sample is over. The bus counts the cycle, and so does the hatch filter while its input differs from its state
(R30, R31, R37, R38, R40, R189, R194).
The model's choices: that the empty queue counts a cycle (assumption log 2), that the line stands at its last reported level
until a command reports another (log 17), and how many samples of its stop bit a reported character still has (log 18). -/
def Obligations.IdleStepCountsOneCycle : Prop :=
  ∀ s : State, s.pending = [] → s.dueCommand = none → s.isReleased = true →
    ∃ t, step s = .next t ∧
      (s.loader.bus ≠ .aborting 0 → t = { s with clock := t.clock, trunk := t.trunk, loader := t.loader }) ∧
      (s.clock.hold = true → t.clock.time = s.clock.time ∧ t.clock.hold = false) ∧
      (s.clock.hold = false → s.clock.time.sub + 1 = 10000000 →
        t.clock.time = ⟨s.clock.time.sec + 1, 0⟩ ∧
        t.clock.d = adjustment (s.clock.time.sec + 1) s.clock.F s.clock.P) ∧
      (s.clock.hold = false → s.clock.time.sub + 1 < 10000000 →
        ((s.clock.time.sub + 1) % 10000 = 0 → -((s.clock.time.sub + 1) / 10000 : Nat) < s.clock.d) →
        t.clock.time = ⟨s.clock.time.sec, s.clock.time.sub + 1⟩ ∧
        (t.clock.hold = true ↔ (s.clock.time.sub + 1) % 10000 = 0 ∧
          ((s.clock.time.sub + 1) / 10000 : Nat) ≤ s.clock.d)) ∧
      (s.clock.hold = false → s.clock.time.sub + 1 < 10000000 → (s.clock.time.sub + 1) % 10000 = 0 →
        s.clock.d ≤ -((s.clock.time.sub + 1) / 10000 : Nat) →
        t.clock.time = ⟨s.clock.time.sec, s.clock.time.sub + 2⟩) ∧
      (s.trunk.acc < 10000000 → t.trunk.acc =
        (if 10000000 ≤ s.trunk.acc + 16 * (if s.loader.fast then 115200 else 57600)
         then s.trunk.acc + 16 * (if s.loader.fast then 115200 else 57600) - 10000000
         else s.trunk.acc + 16 * (if s.loader.fast then 115200 else 57600))) ∧
      (s.loader.bus ≠ .aborting 0 → ∀ (inside : Bool) (acc : Nat),
        (inside = true ↔ ∃ n c, s.trunk.receiver = .inChar n c) →
        acc = s.trunk.acc + 16 * (if s.loader.fast then 115200 else 57600) →
        (acc < 10000000 → t.trunk = { s.trunk with acc := acc }) ∧
        (10000000 ≤ acc → t.trunk = { s.trunk with
          acc := acc - 10000000, releasing := false, tail := s.trunk.tail - 1
          idleTimer := if inside = false ∧ s.trunk.dominant = false ∧ s.trunk.tail ≤ 1
            then min (s.trunk.idleTimer + 1) 176 else s.trunk.idleTimer
          run := if inside = false ∧ s.trunk.dominant = true then min (s.trunk.run + 1) 352 else s.trunk.run
          receiver := match s.trunk.receiver with
            | .inChar n c => .inChar (min (n + 1) 169) c
            | .off => .off
            | .hunting => .hunting
            | .waitRecessive => .waitRecessive
          tx := match s.trunk.tx with
            | .idle => .idle
            | .handed f seen _ => .handed f (seen || s.trunk.dominant) true
            | .sending f x => .sending f { x with position := x.position + 1 } }) ∧
        t.loader = { s.loader with
          bus := match s.loader.bus with
            | .idle => .idle
            | .waiting left => .waiting (left - 1)
            | .reading n => .reading (n + 1)
            | .aborting left => .aborting (left - 1)
          stability := if s.pins.hatch = s.loader.filteredOpen then 0 else min (s.loader.stability + 1) 500000 })

/-- A station second with adjustment d lasts 10,000,000 + d cycles of the oscillator (R2): counted from its beginning,
that many cycles bring the next second's beginning, and no smaller number leaves the second. -/
def Obligations.SecondSpansItsAdjustment : Prop :=
  ∀ c : Clock, c.time.sub = 0 → c.hold = false → -999 ≤ c.d → c.d ≤ 999 →
    (Clock.count^[(10000000 + c.d).toNat] c).time = ⟨c.time.sec + 1, 0⟩ ∧
    ∀ n : Nat, (n : Int) < 10000000 + c.d → (Clock.count^[n] c).time.sec = c.time.sec

/-! ### Resets and start-up -/

/-- POWER_ON_RESET gives every block its power-on values, in every state; PIN_RESET keeps F, Q and the learned flag and
gives everything else its power-on value (R25, R44, R62, R78, R93, R118, R141, R158, R173, R187, R188, R199).
The model's choices among what is said here: that the pins, the counter of free values and the queue stand (assumption
log 6), the reset values that no rule states, and the flag keepQ, which is set by a pin reset in RUNNING and kept by one
outside it (assumption log 7). -/
def Obligations.ResetsGiveTheirValues : Prop :=
  (∀ s : State, exec .powerOnReset s = .next { State.reset with
      pins := s.pins, free := s.free, pending := s.pending,
      clock := Clock.reset, trunk := Trunk.reset, peers := Peers.reset, sched := Sched.reset, intake := Intake.reset,
      detector := Detector.reset, co := Coincidence.reset, alerts := Alerts.reset, battery := Battery.reset,
      heater := Heater.reset, service := Service.reset }) ∧
  (∀ s : State, s.isSettled = true →
    exec .pinReset s = .next { State.reset with
      pins := s.pins, free := s.free, pending := s.pending,
      clock := { Clock.reset with F := s.clock.F },
      battery := { Battery.reset with
        Q := s.battery.Q, learned := s.battery.learned, keepQ := s.battery.keepQ || s.isRunning } })

/-- What the blocks' reset values are, where the manual gives them: the clock UNSET at 0.0 with F, P and every count 0
(R25), no frame, no row, no slot, no event, no trigger, no reading, and LOADOFF alone asserted (R188). -/
def Obligations.ResetValues : Prop :=
  Sys2Proof.core.reset = State.reset ∧
  State.reset.clock.state = .unset ∧ State.reset.clock.time = ⟨0, 0⟩ ∧ State.reset.clock.F = 0 ∧
  State.reset.clock.P = 0 ∧ State.reset.clock.age = 0 ∧ State.reset.clock.epoch = 0 ∧
  State.reset.clock.interval = .none ∧ State.reset.clock.log = [] ∧
  State.reset.clock.counters = ⟨0, 0, 0, 0, 0, 0⟩ ∧ State.reset.trunk.line = .busy ∧ State.reset.trunk.idleTimer = 0 ∧
  State.reset.peers.queue = [] ∧ (∀ n, State.reset.peers.row n = ⟨none, none, none⟩) ∧
  (∀ k, State.reset.sched.slots.get k = .empty) ∧ State.reset.sched.history = [] ∧ State.reset.intake.store = [] ∧
  State.reset.intake.state = .priming ∧ State.reset.detector.state = .halted ∧ State.reset.detector.record = none ∧
  State.reset.co.events = [] ∧ State.reset.co.serial = 0 ∧ State.reset.alerts.annState = .off ∧
  State.reset.battery.learned = false ∧ State.reset.battery.voltage = none ∧ State.reset.heater.hold = .idle ∧
  State.reset.heater.out0 = false ∧ State.reset.heater.out1 = false ∧ State.reset.battery.chgen = false ∧
  State.reset.alerts.ann = false ∧ State.reset.battery.loadoff = true ∧ State.reset.trunkDriven = false ∧
  State.reset.psclLow = false ∧ State.reset.psdaLow = false ∧ State.reset.pending = []

/-- RESET_RELEASE samples the straps, sets the filtered hatch state and enters LOADING with the profile read begun; the
first second's d is computed from F and P (R188, R194, R195, R25). -/
def Obligations.ReleaseSamplesTheStraps : Prop :=
  ∀ (stn : BitVec 4) (fast hatch : Bool) (s : State), s.isSettled = true → s.loader.phase = .held →
    exec (.resetRelease stn fast hatch) s = .next { s with
      pins := { s.pins with hatch := hatch }
      clock := { s.clock with d := adjustment s.clock.time.sec s.clock.F s.clock.P }
      loader := { s.loader with
        phase := .loading, rawStrap := stn, fast := fast, bus := .waiting 0, attempts := 0, anyStop := false,
        station := if h : stn.toNat < 14 then ⟨stn.toNat, h⟩ else 13,
        filteredOpen := hatch, stability := 0, disturbedTimer := 0, disturbed := hatch } }

/-- An attempt starts when no wait is left, and ends at the moments of its bit periods alone: 25 cycles after PSCL is
released in an acknowledgement's period where the memory withholds it, at a start or the stop where PSDA reads low, and at
its stop after 462 periods, which the part makes by itself where nothing is reported; a result reported at another moment
changes nothing.
One that is not acknowledged, finds PSDA low or lasts 100,000 cycles fails: the bit period in progress and a stop
condition follow, and then the 10 ms wait, which follows bad bytes at once; the third ends loading with the defaults; valid
bytes end loading with their own working values, each drawn from its place and held to its range; PSCL and PSDA follow the
bit periods (R189, R190, R191, R192, R193, R203).
Where in a bit period a start and the stop condition fall, and when a failed attempt makes its stop condition, is
assumption log 28; that an early or late report changes nothing is assumption log 3; that the bytes of an unreported stop
are free values, numbered by the counter `free`, is assumption log 45; the flag keepQ is assumption log 7; that `advanced` starts again at 0, so that no schedule point falls in the very cycle in
which loading ends, is assumption log 9. -/
def Obligations.ProfileReadEnds : Prop :=
  (∀ s : State, s.isSettled = true → s.loader.phase = .loading →
    (s.loader.bus = .waiting 0 → exec .profileReadAttempt s = .next { s with
      loader := { s.loader with bus := .reading 0, attempts := s.loader.attempts + 1 } }) ∧
    (∀ n, s.loader.bus = .reading n →
      (∀ k, k = 0 ∧ n = 975 ∨ k = 1 ∧ n = 1875 ∨ k = 2 ∧ n = 2875 →
        exec (.profileAttemptEnd (.notAcknowledged k)) s = .next { s with
          loader := { s.loader with bus := .aborting 125 } }) ∧
      (n = 75 ∨ n = 1975 → exec (.profileAttemptEnd .heldLow) s = .next { s with
        loader := { s.loader with bus := .aborting 125 } }) ∧
      (n = 46200 → exec (.profileAttemptEnd .heldLow) s = .next { s with
        loader := { s.loader with bus := .aborting 100 } }) ∧
      (100000 ≤ n → exec .profileAttemptTimeout s = .next { s with
        loader := { s.loader with bus := .aborting (if n % 100 = 0 then 100 else 200 - n % 100) } }) ∧
      (∀ k, ¬ (k = 0 ∧ n = 975 ∨ k = 1 ∧ n = 1875 ∨ k = 2 ∧ n = 2875) →
        exec (.profileAttemptEnd (.notAcknowledged k)) s = .next s) ∧
      (n ≠ 75 ∧ n ≠ 1975 ∧ n ≠ 46200 → exec (.profileAttemptEnd .heldLow) s = .next s) ∧
      (n ≠ 46200 → ∀ bytes, exec (.profileAttemptEnd (.stopped bytes)) s = .next s) ∧
      (n < 100000 → exec .profileAttemptTimeout s = .next s)) ∧
    (s.loader.bus = .reading 46200 → s.pending = [] → s.boundary = none → s.heater.hold = .idle →
      step s = exec (.profileAttemptEnd (.stopped (Vector.ofFn fun k => Config.unreportedByte s.free k.val))) s)) ∧
  (∀ s : State, s.pending = [] → s.dueCommand = none → s.loader.phase = .loading → s.loader.bus = .aborting 0 →
    ∃ t, step s = .next t ∧ t.loader.attempts = s.loader.attempts ∧
      (s.loader.attempts < 3 → t.loader.phase = .loading ∧ t.loader.bus = .waiting 99999) ∧
      (3 ≤ s.loader.attempts → t.loader.phase = .running ∧ t.loader.bus = .idle ∧
        t.loader.outcome = (if s.loader.anyStop then .badSum else .noAnswer) ∧ t.loader.profile = Profile.builtIn ∧
        t.loader.defaultFlag = true ∧ t.loader.clamped = 0 ∧ t.loader.image = s.loader.image ∧
        t.battery.loadoff = false)) ∧
  (∀ (s : State) (bytes : Vector Byte 48), s.isSettled = true → s.loader.phase = .loading →
    s.loader.bus = .reading 46200 →
    ((List.range 24).map (fun k => field bytes.toList (2 * k) 2)).sum % 65536 ≠ 0xA55A →
    (s.loader.attempts < 3 → exec (.profileAttemptEnd (.stopped bytes)) s = .next { s with
      free := s.free + 1
      loader := { s.loader with image := bytes, anyStop := true, bus := .waiting 100000 } }) ∧
    (3 ≤ s.loader.attempts → ∃ t, exec (.profileAttemptEnd (.stopped bytes)) s = .next t ∧ t.loader.phase = .running ∧
      t.loader.outcome = .badSum ∧ t.loader.profile = Profile.builtIn ∧ t.loader.defaultFlag = true ∧
      t.loader.clamped = 0 ∧ t.loader.image = bytes ∧ t.free = s.free + 1)) ∧
  (∀ (s : State) (bytes : Vector Byte 48), s.isSettled = true → s.loader.phase = .loading →
    s.loader.bus = .reading 46200 →
    ((List.range 24).map (fun k => field bytes.toList (2 * k) 2)).sum % 65536 = 0xA55A →
    ∃ t, exec (.profileAttemptEnd (.stopped bytes)) s = .next t ∧
      t.loader = { s.loader with
        phase := .running, bus := .idle, image := bytes, anyStop := true, outcome := .valid, defaultFlag := false,
        attemptsUsed := s.loader.attempts, profile := t.loader.profile, clamped := t.loader.clamped } ∧
      t.loader.profile.drawnFrom t.loader.clamped (field bytes.toList) ∧
      t.clock = { s.clock with lossStart := some s.clock.time, advanced := 0 } ∧
      t.battery.loadoff = false ∧
      t.battery.Q = (if s.battery.keepQ then min s.battery.Q (3600 * t.loader.profile.capacity)
        else 3600 * t.loader.profile.capacity / 2) ∧
      t.battery.stage = (if 40 ≤ 100 * t.battery.Q / (3600 * t.loader.profile.capacity) then .normal
        else if 20 ≤ 100 * t.battery.Q / (3600 * t.loader.profile.capacity) then .conserve else .reserve) ∧
      (s.trunk.line = .idle → t.trunk = { s.trunk with receiver := .hunting }) ∧
      (s.trunk.line ≠ .idle → t.trunk = s.trunk) ∧
      t = { s with
        loader := t.loader, clock := t.clock, trunk := t.trunk, battery := t.battery, heater := t.heater
        free := s.free + 1 }) ∧
  (∀ (s : State) (k c : Nat), c < 100 →
    (s.loader.bus = .reading (100 * k + c) →
      (s.psclLow = true ↔ 1 ≤ k ∧ k ≤ 461 ∧ c < 50) ∧
      (s.psdaLow = true ↔ (k = 0 ∨ k = 19) ∧ 75 ≤ c ∨
        1 ≤ k ∧ k ≤ 8 ∧ (0xA6 : BitVec 8).getLsbD (8 - k) = false ∨ 10 ≤ k ∧ k ≤ 17 ∨
        20 ≤ k ∧ k ≤ 27 ∧ (0xA7 : BitVec 8).getLsbD (27 - k) = false ∨ 29 ≤ k ∧ k < 460 ∧ (k - 29) % 9 = 8 ∨ k = 461)) ∧
    (∀ left, s.loader.bus = .aborting left →
      (s.psclLow = true ↔ 150 < left ∨ 50 < left ∧ left ≤ 100) ∧ (s.psdaLow = true ↔ 0 < left ∧ left ≤ 100)) ∧
    ((s.loader.bus = .idle ∨ s.loader.bus = .waiting k) → s.psclLow = false ∧ s.psdaLow = false))

/-- The hatch: a level change sets the input and clears the stability count where it agrees with the filtered state; at
500,000 cycles the filtered state follows, opening clears the disturbed timer and counts, closing starts it at 120; and
the disturbed mark falls when the timer has run out with the hatch closed (R194, R195). -/
def Obligations.HatchMarksDisturbance : Prop :=
  (∀ s : State, s.isSettled = true →
    (∀ v, exec (.hatchLevelChange v) s = .next { s with
      pins := { s.pins with hatch := v }
      loader := { s.loader with stability := if v = s.loader.filteredOpen then 0 else s.loader.stability } }) ∧
    (s.loader.phase ≠ .held → 500000 ≤ s.loader.stability → s.loader.filteredOpen = false → s.pins.hatch = true →
      exec .filteredStateChange s = .next { s with loader := { s.loader with
        filteredOpen := true, stability := 0, disturbedTimer := 0, disturbed := true,
        openings := min (s.loader.openings + 1) 65535 } }) ∧
    (s.loader.phase ≠ .held → 500000 ≤ s.loader.stability → s.loader.filteredOpen = true → s.pins.hatch = false →
      exec .filteredStateChange s = .next { s with loader := { s.loader with
        filteredOpen := false, stability := 0, disturbedTimer := 120 } })) ∧
  (∀ s : State, s.loader.disturbed = true → s.loader.filteredOpen = false → s.loader.disturbedTimer = 0 →
    exec .disturbedTimerExpiry s = .next { s with loader := { s.loader with disturbed := false } })

/-- Before loading has ended the part takes nothing that waits for its end: no edge, no time record, no set, no tick, no
entry of the inbound queue, no request of the coincidence unit, no computation, no beacon or announcement point and no
choice (R193; R188 for the blocks that R193's list does not name, and for the held phase).
That such a command leaves the state as it was, rather than never being carried out, is the model's choice (assumption
log 3). -/
def Obligations.LoadingTakesNothing : Prop :=
  ∀ (s : State) (c : Instr), s.isSettled = true → s.loader.phase ≠ .running →
    (c ∈ [Instr.ppsEdge, .edgeMissing, .refrxGapTimeout, .referenceLoss, .peerEvaluation, .portFrameOpen,
      .portFrameClose, .tick, .inboundBeacon, .inboundOnset, .inboundCoda, .inboundHeat, .inboundAlert,
      .inboundAlertRaise, .inboundQuery, .inboundReply, .vote, .heardAlert, .heardAlertRaise, .peakRequest,
      .eventClosingTime, .closingExpiry, .raiseSent, .deferenceExpiry, .annunciatorSlot, .computation,
      .announcementPoint, .heaterWindowEdge, .beaconCandidatePoint, .choice] ∨
      (∃ b d, c = .refrxCharacter b d) ∨ (∃ x, c = .setArrival x)) →
    exec c s = .next s

/-! ### The station clock -/

/-- PPS_EDGE makes the edge awaiting its record, with c, e, the assigned second and the capture; an edge more than
1,500 ms after the last, or the first, is a gap edge, and an earlier edge still awaiting counts as missing; EDGE_MISSING
after 900 ms counts it, discards the partial reference interval and sets the return count to 0 (R5, R7, R14, R17).
That a missing edge leaves a peer interval standing is the model's reading (assumption log 15). -/
def Obligations.EdgesAwaitTheirRecord : Prop :=
  (∀ (s : State) (e : Int) (x : Edge), s.isSettled = true → s.loader.phase = .running →
    e = (if s.clock.time.sub < 5000000 then (s.clock.time.sub : Int) else (s.clock.time.sub : Int) - 10000000) →
    x = { c := s.clock.time.sub, e := e, captured := s.clock.time
          assigned := if 0 ≤ e then s.clock.time.sec else s.clock.time.sec + 1
          gap := match s.clock.lastEdge with
            | none => true
            | some t => decide (15000000 < s.clock.time.diff t) } →
    (s.clock.awaiting = none →
      exec .ppsEdge s = .next { s with clock := { s.clock with
        awaiting := some x, lastEdge := some s.clock.time, lossStart := some s.clock.time } }) ∧
    (s.clock.awaiting ≠ none →
      exec .ppsEdge s = .next { s with clock := { s.clock with
        awaiting := some x, lastEdge := some s.clock.time, lossStart := some s.clock.time
        missing := s.clock.missing + 1, returnCount := 0
        interval := match s.clock.interval with
          | .reference _ _ => .none
          | .none => .none
          | .peer e t => .peer e t
        counters := { s.clock.counters with
          missingRecords := min (s.clock.counters.missingRecords + 1) 65535 } } })) ∧
  (∀ (s : State) (x : Edge), s.isSettled = true → s.loader.phase = .running → s.clock.awaiting = some x →
    9000000 ≤ s.clock.time.diff x.captured →
    exec .edgeMissing s = .next { s with clock := { s.clock with
      awaiting := none, missing := s.clock.missing + 1, returnCount := 0
      interval := match s.clock.interval with
        | .reference _ _ => .none
        | .none => .none
        | .peer e t => .peer e t
      counters := { s.clock.counters with missingRecords := min (s.clock.counters.missingRecords + 1) 65535 } } })

/-- A time record's bytes are gathered one by one, from 0x5A; a low stop bit, a wrong check byte or a gap of more than
5 ms gives it up as a bad record, and a character after such a gap may begin the next (R6).
That the gap is measured between the middles of two stop bits, less the 9,896 cycles of a character, and that
REFRX_GAP_TIMEOUT is taken from 50,001 cycles, is the model's reading (assumption log 12). So is that a character with a
low stop bit outside a record, or after such a gap, is ignored, 0x5A included, and is no bad record itself (assumption
log 13): R6 gives a low stop bit an effect only inside a record.
A complete record with a right check byte that finds no edge awaiting it, or one captured more than 900 ms before, is
ignored: no edge is taken, and there is no loss (R7). -/
def Obligations.TimeRecordIsAssembled : Prop :=
  ∀ (s : State) (b : Byte), s.isSettled = true → s.loader.phase = .running →
    (s.clock.refBytes = [] → exec (.refrxCharacter 0x5A true) s = .next { s with clock := { s.clock with
      refBytes := [0x5A], refLast := some s.clock.time } }) ∧
    (s.clock.refBytes = [] → b ≠ 0x5A → exec (.refrxCharacter b true) s = .next { s with clock := { s.clock with
      refLast := some s.clock.time } }) ∧
    (s.clock.refBytes = [] → exec (.refrxCharacter b false) s = .next { s with clock := { s.clock with
      refLast := some s.clock.time } }) ∧
    (∀ t, s.clock.refBytes ≠ [] → s.clock.refLast = some t → s.clock.time.diff t ≤ 59896 →
      (s.clock.refBytes.length < 6 → exec (.refrxCharacter b true) s = .next { s with clock := { s.clock with
        refBytes := s.clock.refBytes ++ [b], refLast := some s.clock.time } }) ∧
      (exec (.refrxCharacter b false) s = .next { s with clock := { s.clock with
        refBytes := [], refLast := some s.clock.time
        counters := { s.clock.counters with badRecords := min (s.clock.counters.badRecords + 1) 65535 } } }) ∧
      (s.clock.refBytes.length = 6 → b ≠ s.clock.refBytes.foldl (fun x y => x ^^^ y) 0 →
        exec (.refrxCharacter b true) s = .next { s with clock := { s.clock with
          refBytes := [], refLast := some s.clock.time
          counters := { s.clock.counters with badRecords := min (s.clock.counters.badRecords + 1) 65535 } } }) ∧
      (s.clock.refBytes.length = 6 → b = s.clock.refBytes.foldl (fun x y => x ^^^ y) 0 →
        (∀ x, s.clock.awaiting = some x → 9000000 < s.clock.time.diff x.captured) →
        exec (.refrxCharacter b true) s = .next { s with clock := { s.clock with
          refBytes := [], refLast := some s.clock.time } })) ∧
    (∀ t stop, s.clock.refBytes ≠ [] → s.clock.refLast = some t → 59896 < s.clock.time.diff t →
      exec (.refrxCharacter b stop) s = .next { s with clock := { s.clock with
        refBytes := if stop = true ∧ b = 0x5A then [b] else [], refLast := some s.clock.time
        counters := { s.clock.counters with badRecords := min (s.clock.counters.badRecords + 1) 65535 } } }) ∧
    (∀ t, s.clock.refBytes ≠ [] → s.clock.refLast = some t → 50000 < s.clock.time.diff t →
      exec .refrxGapTimeout s = .next { s with clock := { s.clock with
        refBytes := []
        counters := { s.clock.counters with badRecords := min (s.clock.counters.badRecords + 1) 65535 } } })

/-- The first taken edge of an UNSET clock and the pending acquisition edge of one in ACQUIRE acquire; in HOLDOVER and
PEER-STEERED a taken edge counts toward the return, a gap edge as the first, and the third does the same. A size other than
0 is a whole step of station time, as StepMovesHeldTimes states it (R7, R10, R13, R14, R17, R22, R23).
That the seconds part of the step's size is read as a signed number, and that a step between the edge and its record
moves the size with the capture, is the model's reading (assumption logs 11 and 14). -/
def Obligations.FirstEdgeAndReturnAcquire : Prop :=
  (∀ (s : State) (r : List Byte) (b : Byte) (x : Edge) (seconds : BitVec 32) (z : Int),
    s.answersEdge r b x seconds →
    (s.clock.state = .unset ∨ s.clock.state = .acquire ∧ s.clock.acquirePending = true) →
    z = Time.diff ⟨seconds, 0⟩ x.captured →
    ∃ t, exec (.refrxCharacter b true) s = .next t ∧ t.clock.state = .acquire ∧ t.clock.interval = .reference 0 0 ∧
      t.clock.P = 0 ∧ t.clock.F = s.clock.F ∧ t.clock.acquirePending = false ∧ t.clock.awaiting = none ∧
      t.clock.missing = 0 ∧ t.clock.returnCount = (if s.clock.state = .unset then 0 else s.clock.returnCount) ∧
      t.clock.outliers = s.clock.outliers ∧ t.clock.d = adjustment t.clock.time.sec s.clock.F 0 ∧
      (z = 0 → t.clock.time = s.clock.time ∧ t.clock.epoch = s.clock.epoch ∧ t.clock.log = s.clock.log ∧
        t = { s with clock := t.clock }) ∧
      (z ≠ 0 → t.clock.time = s.clock.time.add z ∧ t.clock.epoch = s.clock.epoch + 1 ∧
        t.clock.log = (⟨s.clock.time.add z, clampInt (-2147483647) 2147483647 z, .acquire⟩ :: s.clock.log).take 4 ∧
        t.clock.counters.steps = min (s.clock.counters.steps + 1) 65535) ∧
      ∀ u v : State, u = { s with clock := { s.clock with
          refBytes := [], refLast := some s.clock.time, awaiting := none, missing := 0, state := .acquire
          restartPending := if s.clock.state = .unset then false else s.clock.restartPending
          returnCount := if s.clock.state = .unset then 0 else s.clock.returnCount } } →
        v = (if z = 0 then u else u.applyStep z .acquire) →
        t = { v with clock := { v.clock with
          acquirePending := false, interval := .reference 0 0, P := 0
          d := adjustment v.clock.time.sec v.clock.F 0 } }) ∧
  (∀ (s : State) (r : List Byte) (b : Byte) (x : Edge) (seconds : BitVec 32) (n : Nat),
    s.answersEdge r b x seconds → (s.clock.state = .holdover ∨ s.clock.state = .peerSteered) →
    n = (if x.gap then 1 else s.clock.returnCount + 1) →
    exec (.refrxCharacter b true) s = .next { s with clock := { s.clock with
      refBytes := [], refLast := some s.clock.time, awaiting := none, missing := 0, returnCount := n
      taken := if 3 ≤ n then some ⟨x, seconds⟩ else none } }) ∧
  (∀ (s : State) (x : Taken) (z : Int), (s.clock.state = .holdover ∨ s.clock.state = .peerSteered) →
    3 ≤ s.clock.returnCount → s.clock.taken = some x → z = Time.diff ⟨x.seconds, 0⟩ x.edge.captured →
    ∃ t, exec .referenceReturn s = .next t ∧ t.clock.state = .acquire ∧ t.clock.returnCount = 0 ∧
      t.clock.F = s.clock.F ∧ t.clock.P = 0 ∧ t.clock.interval = .reference 0 0 ∧
      t.clock.time = (if z = 0 then s.clock.time else s.clock.time.add z) ∧
      t.clock.epoch = (if z = 0 then s.clock.epoch else s.clock.epoch + 1) ∧
      ∀ u v : State, u = { s with clock := { s.clock with
          state := .acquire, restartPending := false, returnCount := 0, taken := none } } →
        v = (if z = 0 then u else u.applyStep z .acquire) →
        t = { v with clock := { v.clock with
          acquirePending := false, interval := .reference 0 0, P := 0
          d := adjustment v.clock.time.sec v.clock.F 0 } })

/-- In LOCKED a taken edge beyond 1 ms is an outlier: the two outlier counts rise, the partial interval is discarded, and
no correction is made. Any other edge of LOCKED, and every edge of ACQUIRE after its acquisition edge, enters the
interval: it counts in it, the sixteenth being kept for its evaluation, and a gap edge or the first edge after a discard
begins a new one, with P 0. Before that comes a seconds correction where the record names another second, a whole step of
station time, as StepMovesHeldTimes states it. The third outlier in a row ends in ACQUIRE with the acquisition edge still to come (R7, R8, R10, R13, R14, R15, R22, R23). -/
def Obligations.LockedEdgesDiscipline : Prop :=
  (∀ (s : State) (r : List Byte) (b : Byte) (x : Edge) (seconds : BitVec 32),
    s.answersEdge r b x seconds → s.clock.state = .locked → 10000 < x.e.natAbs →
    exec (.refrxCharacter b true) s = .next { s with clock := { s.clock with
      refBytes := [], refLast := some s.clock.time, awaiting := none, missing := 0
      interval := match s.clock.interval with
        | .reference _ _ => .none
        | .none => .none
        | .peer e t => .peer e t
      outliers := s.clock.outliers + 1
      counters := { s.clock.counters with outliers := min (s.clock.counters.outliers + 1) 65535 } } }) ∧
  (∀ (s : State) (r : List Byte) (b : Byte) (x : Edge) (seconds : BitVec 32) (e0 : Int) (n outliers : Nat),
    s.answersEdge r b x seconds →
    (s.clock.state = .locked ∧ x.e.natAbs ≤ 10000 ∧ outliers = 0 ∨
      s.clock.state = .acquire ∧ s.clock.acquirePending = false ∧ outliers = s.clock.outliers) →
    (seconds = x.assigned → s.clock.interval = .reference e0 n → x.gap = false →
      exec (.refrxCharacter b true) s = .next { s with clock := { s.clock with
        refBytes := [], refLast := some s.clock.time, awaiting := none, missing := 0, outliers := outliers
        taken := if 16 ≤ n + 1 then some ⟨x, seconds⟩ else none, interval := .reference e0 (n + 1) } }) ∧
    (seconds = x.assigned → (s.clock.interval = .none ∨ s.clock.interval = .reference e0 n ∧ x.gap = true) →
      exec (.refrxCharacter b true) s = .next { s with clock := { s.clock with
        refBytes := [], refLast := some s.clock.time, awaiting := none, missing := 0, outliers := outliers
        taken := none, interval := .reference x.e 0, P := 0, d := adjustment s.clock.time.sec s.clock.F 0 } }) ∧
    (seconds ≠ x.assigned → s.clock.time.sub < 10000000 →
      ∃ t, exec (.refrxCharacter b true) s = .next t ∧
        t.clock.time = ⟨s.clock.time.sec + (seconds - x.assigned), s.clock.time.sub⟩ ∧ t.clock.F = s.clock.F ∧
        t.clock.epoch = s.clock.epoch + 1 ∧ t.clock.outliers = outliers ∧
        (s.clock.interval = .reference e0 n → x.gap = false →
          t.clock.interval = .reference e0 (n + 1) ∧ t.clock.P = s.clock.P) ∧
        ((s.clock.interval = .none ∨ s.clock.interval = .reference e0 n ∧ x.gap = true) →
          t.clock.interval = .reference x.e 0 ∧ t.clock.P = 0) ∧
        t.clock.counters.corrections = min (s.clock.counters.corrections + 1) 65535 ∧
        t.clock.counters.steps = s.clock.counters.steps ∧
        (t.clock.log.map (fun l => l.cause)).head? = some .seconds ∧
        ∀ v : State, v = State.applyStep { s with clock := { s.clock with
            refBytes := [], refLast := some s.clock.time, awaiting := none, missing := 0, outliers := outliers } }
            (10000000 * (seconds - x.assigned).toInt) .seconds →
          (s.clock.interval = .reference e0 n → x.gap = false → t = { v with clock := { v.clock with
            counters := { v.clock.counters with corrections := min (s.clock.counters.corrections + 1) 65535 }
            taken := if 16 ≤ n + 1 then some ⟨x, seconds⟩ else none, interval := .reference e0 (n + 1) } }) ∧
          ((s.clock.interval = .none ∨ s.clock.interval = .reference e0 n ∧ x.gap = true) →
            t = { v with clock := { v.clock with
              counters := { v.clock.counters with corrections := min (s.clock.counters.corrections + 1) 65535 }
              taken := none, interval := .reference x.e 0, P := 0
              d := adjustment v.clock.time.sec v.clock.F 0 } }))) ∧
  (∀ s : State, s.clock.state = .locked → 3 ≤ s.clock.outliers →
    exec .outlierLimit s = .next { s with clock := { s.clock with
      state := .acquire, interval := .none, restartPending := false, acquirePending := true, returnCount := 0
      outliers := 0, P := 0, d := adjustment s.clock.time.sec s.clock.F 0 } })

/-- REFERENCE_EVALUATION: F takes half the frequency error, and the clock slews within 200 cycles and steps beyond, by a
whole step of station time, as StepMovesHeldTimes states it; ACQUIRE becomes LOCKED within 100 (R2, R3, R15, R22, R23). -/
def Obligations.ReferenceIsEvaluated : Prop :=
  ∀ (s : State) (x : Taken) (e0 F : Int) (n : Nat), s.clock.interval = .reference e0 n → 16 ≤ n →
    s.clock.taken = some x →
    F = max (-3200) (min (s.clock.F + (x.edge.e - (e0 - 16 * s.clock.P)).tdiv 2) 3200) →
    (x.edge.e.natAbs ≤ 200 → exec .referenceEvaluation s = .next { s with clock := { s.clock with
      taken := none, interval := .reference x.edge.e 0, F := F, P := max (-12) (min (x.edge.e.tdiv 16) 12)
      state := if s.clock.state = .acquire ∧ x.edge.e.natAbs ≤ 100 then .locked else s.clock.state
      d := adjustment s.clock.time.sec F (max (-12) (min (x.edge.e.tdiv 16) 12)) } }) ∧
    (200 < x.edge.e.natAbs → ∃ t, exec .referenceEvaluation s = .next t ∧
      t.clock.time = s.clock.time.add (-x.edge.e) ∧ t.clock.F = F ∧ t.clock.P = 0 ∧
      t.clock.interval = .reference 0 0 ∧ t.clock.state = s.clock.state ∧ t.clock.epoch = s.clock.epoch + 1 ∧
      t.clock.d = adjustment t.clock.time.sec F 0 ∧
      (t.clock.log.map (fun l => l.cause)).head? = some .reference ∧
      ∀ v : State, v = State.applyStep { s with clock := { s.clock with taken := none, F := F } }
          (-x.edge.e) .reference →
        t = { v with clock := { v.clock with
          interval := .reference 0 0, P := 0, d := adjustment v.clock.time.sec F 0 } })

/-- A reference loss, by 3 s without an edge, by the third missing edge or by a record that says its time is not valid:
the counts return to 0 and the loss is counted; LOCKED and ACQUIRE fall to HOLDOVER with P 0 and age 0, and at once to
PEER-STEERED where a peer is a source; the other states stand. From the holdover age of 3600 the class is T3, and the
sources are examined again (R7, R9, R11, R16, R18, R19). -/
def Obligations.LossEndsInHoldover : Prop :=
  (∀ (s u : State) (c : Instr),
    (c = .referenceLoss ∧ s.isSettled = true ∧ s.loader.phase = .running ∧
        (∃ t, s.clock.lossStart = some t ∧ 30000000 ≤ s.clock.time.diff t) ∧
        u = { s with clock := { s.clock with lossStart := none } } ∨
      c = .consecutiveMissingLimit ∧ 3 ≤ s.clock.missing ∧ u = s ∨
      (∃ r b x, c = .refrxCharacter b true ∧ s.refusesEdge r b x) ∧
        u = { s with clock := { s.clock with
          refBytes := [], refLast := some s.clock.time, awaiting := none } }) →
    ((s.clock.state = .unset ∨ s.clock.state = .holdover ∨ s.clock.state = .peerSteered) →
      exec c s = .next { u with clock := { u.clock with
        missing := 0, outliers := 0, returnCount := 0
        counters := { s.clock.counters with losses := min (s.clock.counters.losses + 1) 65535 } } }) ∧
    ((s.clock.state = .acquire ∨ s.clock.state = .locked) →
      ∃ t, exec c s = .next t ∧ State.reexamines { u with clock := { u.clock with
        missing := 0, outliers := 0, returnCount := 0
        counters := { s.clock.counters with losses := min (s.clock.counters.losses + 1) 65535 }
        state := .holdover, P := 0, age := 0, aged := false, interval := .none, restartPending := false
        acquirePending := false, d := adjustment s.clock.time.sec s.clock.F 0 } } t)) ∧
  (∀ s : State, s.clock.state = .holdover → 3600 ≤ s.clock.age → s.clock.aged = false →
    s.timeClass = .t1 ∧ ({ s with clock := { s.clock with aged := true } } : State).timeClass = .t3 ∧
    ∃ t, exec .holdoverAgeLimit s = .next t ∧
      State.reexamines { s with clock := { s.clock with aged := true } } t)

/-- PEER_EVALUATION, 16 s after the start of the peer interval: with no source the interval waits to restart; else F is
updated as at a reference evaluation from the median of the sources' offsets, and the clock slews within 2000 cycles or
steps by the median, with a whole step of station time, as StepMovesHeldTimes states it
(R2, R3, R18, R19, R20, R22, R23). -/
def Obligations.PeersAreEvaluated : Prop :=
  ∀ (s : State) (e0 : Int) (start : Time) (c : TimeClass), s.isSettled = true → s.loader.phase = .running →
    s.clock.state = .peerSteered → s.clock.interval = .peer e0 start → s.clock.restartPending = false →
    160000000 ≤ s.clock.time.diff start → s.clock.steeringClass = some c →
    (s.offsetsOf c.sources = [] →
      exec .peerEvaluation s = .next { s with clock := { s.clock with restartPending := true } }) ∧
    (∀ m F, isMedian (s.offsetsOf c.sources) m →
      F = max (-3200) (min (s.clock.F + (m - (e0 - 16 * s.clock.P)).tdiv 2) 3200) →
      (m.natAbs ≤ 2000 → exec .peerEvaluation s = .next { s with clock := { s.clock with
        F := F, P := max (-12) (min (m.tdiv 16) 12), interval := .peer m s.clock.time
        d := adjustment s.clock.time.sec F (max (-12) (min (m.tdiv 16) 12)) } }) ∧
      (2000 < m.natAbs → ∃ t, exec .peerEvaluation s = .next t ∧ t.clock.time = s.clock.time.add (-m) ∧
        t.clock.F = F ∧ t.clock.P = 0 ∧ t.clock.interval = .peer 0 t.clock.time ∧
        t.clock.epoch = s.clock.epoch + 1 ∧ t.clock.state = .peerSteered ∧
        (t.clock.log.map (fun l => l.cause)).head? = some .peer ∧
        ∀ v : State, v = State.applyStep { s with clock := { s.clock with F := F } } (-m) .peer →
          t = { v with clock := { v.clock with
            interval := .peer 0 v.clock.time, P := 0, d := adjustment v.clock.time.sec F 0 } }))

/-- A step of station time, with every effect of R22: the clock moves exactly, modulo 2^32 s, and every held time moves
with it (R36, R42, R47, R72, R91, R131, R144, R178, R183); stored offsets become stale (R53); the annunciator starts
afresh (R156); what is not named stands. A BEACON being sent keeps its time field from the field's first sample on (R42).
The model's choices: that the extra cycle of a held boundary, `hold`, stands across the step (assumption log 10), that the
count of the cycle's values, `advanced`, starts again at 0, so that no point counting has just reached is taken after the
step (log 9), that a capture of a character still in progress moves (log 22), and that the start of the 3 s period moves
before any edge too (log 42). -/
def Obligations.StepMovesHeldTimes : Prop :=
  ∀ (s : State) (x : Int) (cause : StepCause), ∃ t, s.applyStep x cause = t ∧
    ((t.clock.time.cycles : Int) = ((s.clock.time.cycles : Int) + x) % (4294967296 * 10000000) ∧
      t.clock.time.sub < 10000000) ∧
    t.clock = { s.clock with
      time := t.clock.time, advanced := 0, epoch := s.clock.epoch + 1
      d := adjustment t.clock.time.sec s.clock.F s.clock.P
      awaiting := s.clock.awaiting.map (fun e => { e with captured := e.captured.add x })
      taken := s.clock.taken.map (fun e => { e with edge := { e.edge with captured := e.edge.captured.add x } })
      lastEdge := s.clock.lastEdge.map (fun c => c.add x)
      lossStart := s.clock.lossStart.map (fun c => c.add x)
      refLast := s.clock.refLast.map (fun c => c.add x)
      log := ((⟨t.clock.time, max (-2147483647) (min x 2147483647), cause⟩ : StepEntry) :: s.clock.log).take 4
      counters := { s.clock.counters with
        steps := if cause = .seconds then s.clock.counters.steps else min (s.clock.counters.steps + 1) 65535 } } ∧
    t.trunk = { s.trunk with
      receiver := match s.trunk.receiver with
        | .inChar n c => .inChar n (c.add x)
        | .off => .off
        | .hunting => .hunting
        | .waitRecessive => .waitRecessive
      assembler := match s.trunk.assembler with
        | .assembling f => .assembling { f with capture := f.capture.add x }
        | .noFrame => .noFrame
        | .discarding => .discarding
      tx := match s.trunk.tx with
        | .sending f r => .sending f { r with
          capture := r.capture.add x, field := if r.position < 176 then r.field.add x else r.field }
        | .handed f e b => .handed f e b
        | .idle => .idle } ∧
    (∀ k, t.sched.slots.get k = (match s.sched.slots.get k with
      | .empty => .empty
      | .ready r => .ready (r.movedBy x)
      | .inFlight r w => .inFlight (r.movedBy x) (w.map (fun q => q.movedBy x)))) ∧
    t.sched.history = s.sched.history ∧ t.sched.lastCandidate = s.sched.lastCandidate ∧
    (∀ n, t.peers.row n = { s.peers.row n with
      time := (s.peers.row n).time.map (fun p => { p with stale := true }) }) ∧
    t.peers = { s.peers with
      rows := t.peers.rows
      queue := s.peers.queue.map (fun e => { e with capture := e.capture.add x })
      hand := s.peers.hand.map (fun e => { e with capture := e.capture.add x }) } ∧
    t.intake = { s.intake with
      store := s.intake.store.map (fun e => { e with stamp := e.stamp.add x })
      last := s.intake.last.map (fun e => { e with stamp := e.stamp.add x }) } ∧
    t.co = { s.co with events := s.co.events.map (fun e => { e with
      declaredAt := if e.isOpen then e.declaredAt.add x else e.declaredAt }) } ∧
    (s.alerts.annState ≠ .off → t.alerts = { s.alerts with
      deference := s.alerts.deference.map (fun e => { e with expiry := e.expiry.add x })
      annState := .waiting, slot := 0, level := 0, slotPoint := none, ann := false }) ∧
    (s.alerts.annState = .off → t.alerts = { s.alerts with
      deference := s.alerts.deference.map (fun e => { e with expiry := e.expiry.add x }) }) ∧
    t.heater = { s.heater with
      hold := match s.heater.hold with
        | .holding c => .holding (c.add x)
        | .idle => .idle
        | .spent => .spent
      lastRequest := s.heater.lastRequest.map (fun c => c.add x)
      out0 := t.heater.out0, out1 := t.heater.out1 } ∧
    (t.heater.out0 = true ↔ t.drives (625000 * s.loader.station.val) s.heater.steps0) ∧
    (t.heater.out1 = true ↔ t.drives ((625000 * s.loader.station.val + 5000000) % 10000000) s.heater.steps1) ∧
    t = { s with
      clock := t.clock, trunk := t.trunk, peers := t.peers, sched := t.sched, intake := t.intake, co := t.co
      alerts := t.alerts, heater := t.heater }

/-- SECOND_BOUNDARY_EVENT: the holdover age, the latch of every link counter, the ages of the rows, the station-conflict
timer, the disturbed timer and the annunciator each take their count (R4, R16, R44, R49, R61, R154, R155, R195); while
loading no reading is taken and no computation brought (R159, R174).
That the pins keep the readings shown is assumption log 8; the mark `lapsed` of a trigger part is assumption log 25. -/
def Obligations.BoundaryCountsEveryBlock : Prop :=
  ∀ (s : State) (r : Readings), s.isSettled = true → s.loader.phase ≠ .held → s.atBoundary →
    ∃ t, exec (.secondBoundaryEvent r) s = .next t ∧
      t.clock = { s.clock with
        latestBoundary := some s.clock.time.sec
        age := if s.clock.state = .holdover then min (s.clock.age + 1) 65535 else s.clock.age } ∧
      t.loader = { s.loader with disturbedTimer := s.loader.disturbedTimer - 1 } ∧
      t.pins = { s.pins with analog := r } ∧
      t.peers = { s.peers with rows := t.peers.rows, conflictTimer := s.peers.conflictTimer - 1 } ∧
      (∀ n, (t.peers.row n).time = (s.peers.row n).time.map (fun p => { p with age := p.age + 1 }) ∧
        (t.peers.row n).heat = (s.peers.row n).heat.map (fun p => { p with age := p.age + 1 }) ∧
        (t.peers.row n).trigger = (s.peers.row n).trigger.map (fun p => { p with
          lapsed := p.lapsed || decide (10000000 * (s.loader.profile.E : Int) < s.clock.time.diff p.onset) })) ∧
      t.trunk = { s.trunk with
        faultSeen := decide (s.trunk.line = .fault)
        counters :=
          { framingErrors := s.trunk.counters.framingErrors.latched
            checkFailures := s.trunk.counters.checkFailures.latched
            truncated := s.trunk.counters.truncated.latched, stray := s.trunk.counters.stray.latched
            losses := s.trunk.counters.losses.latched, driveFaults := s.trunk.counters.driveFaults.latched
            overruns := s.trunk.counters.overruns.latched, conflicts := s.trunk.counters.conflicts.latched
            faultSeconds := (if s.trunk.faultSeen then
              { s.trunk.counters.faultSeconds with
                running := s.trunk.counters.faultSeconds.running + 1
                total := min (s.trunk.counters.faultSeconds.total + 1) 65535 }
              else s.trunk.counters.faultSeconds).latched } } ∧
      (s.alerts.annState = .off → t.alerts = s.alerts) ∧
      (s.alerts.annState = .playing → s.alerts.slot + 1 < (s.loader.profile.pattern s.alerts.level).2 →
        t.alerts.slot = s.alerts.slot + 1 ∧ t.alerts.annState = .playing ∧
        t.alerts.ann = (s.loader.profile.pattern s.alerts.level).1.getLsbD (s.alerts.slot + 1)) ∧
      (∀ e, s.openEvent = some e → (s.alerts.annState = .waiting ∨ s.alerts.annState = .playing ∧
          (s.loader.profile.pattern s.alerts.level).2 ≤ s.alerts.slot + 1) →
        t.alerts.slot = 0 ∧ t.alerts.level = e.level ∧ t.alerts.annState = .playing ∧
        t.alerts.ann = (s.loader.profile.pattern e.level).1.getLsbD 0) ∧
      t.alerts = { s.alerts with
        annState := t.alerts.annState, slot := t.alerts.slot, level := t.alerts.level, slotPoint := t.alerts.slotPoint
        ann := t.alerts.ann } ∧
      (s.loader.phase = .loading → t.battery = s.battery ∧ t.heater = s.heater) ∧
      (s.loader.phase = .running → (t.heater.computationDue = true ↔
        s.heater.computationDue = true ∨ s.clock.time.sec.toNat % 10 = 0)) ∧
      t = { s with
        pins := t.pins, clock := t.clock, trunk := t.trunk, peers := t.peers, loader := t.loader, alerts := t.alerts
        battery := t.battery, heater := t.heater }

/-- The reading of a second boundary event in RUNNING: the four values, the fault flags and both fault counters, Q by the
current's rule held to 0..Qcap, and the full count; with no resync due, the low-voltage and recovery counts, the SoC test
with its hysteresis, and CHGEN by the temperature; a change of stage is counted, and the heater controller allocates again
under the new stage, its demand, its hold and its announcements standing; nothing else of the battery monitor changes, and
nothing of the heater controller where the stage stands (R159 to R166, R168, R169, R172, R181). -/
def Obligations.ReadingsDriveTheStage : Prop :=
  (∀ (s : State) (r : Readings), s.isSettled = true → s.loader.phase = .running → s.atBoundary → r.wellFormed = true →
    ∃ t, exec (.secondBoundaryEvent r) s = .next t ∧
      t.battery.voltage = some r.voltage ∧ t.battery.current = some r.current ∧
      t.battery.batteryTemp = some r.batteryTemp ∧ t.battery.enclosureTemp = some r.enclosureTemp ∧
      (t.battery.batteryFault = true ↔ r.batteryTemp = -400 ∨ r.batteryTemp = 850) ∧
      (t.battery.enclosureFault = true ↔ r.enclosureTemp = -400 ∨ r.enclosureTemp = 850) ∧
      t.battery.counters.batteryFaults = (if r.batteryTemp = -400 ∨ r.batteryTemp = 850
        then min (s.battery.counters.batteryFaults + 1) 65535 else s.battery.counters.batteryFaults) ∧
      t.battery.counters.enclosureFaults = (if r.enclosureTemp = -400 ∨ r.enclosureTemp = 850
        then min (s.battery.counters.enclosureFaults + 1) 65535 else s.battery.counters.enclosureFaults) ∧
      t.battery.counters.stageChanges = (if t.battery.stage = s.battery.stage
        then s.battery.counters.stageChanges else min (s.battery.counters.stageChanges + 1) 65535) ∧
      (t.battery.Q : Int) = max 0 (min ((s.battery.Q : Int)
        + (if r.current ≤ 0 then r.current else 15 * r.current / 16)) (3600 * s.loader.profile.capacity : Nat)) ∧
      t.battery.full = (if (s.loader.profile.vFull : Int) ≤ r.voltage ∧ 0 ≤ r.current ∧
        r.current ≤ (s.loader.profile.iTaper : Int) then s.battery.full + 1 else 0) ∧
      t.battery = { s.battery with
        voltage := t.battery.voltage, current := t.battery.current, batteryTemp := t.battery.batteryTemp
        enclosureTemp := t.battery.enclosureTemp, batteryFault := t.battery.batteryFault
        enclosureFault := t.battery.enclosureFault, Q := t.battery.Q, full := t.battery.full, low := t.battery.low
        recovery := t.battery.recovery, stage := t.battery.stage, testsDue := t.battery.testsDue
        chgen := t.battery.chgen
        counters := { s.battery.counters with
          batteryFaults := t.battery.counters.batteryFaults, enclosureFaults := t.battery.counters.enclosureFaults
          stageChanges := t.battery.counters.stageChanges } } ∧
      (t.battery.stage = s.battery.stage →
        t.heater = { s.heater with computationDue := t.heater.computationDue }) ∧
      (t.battery.stage ≠ s.battery.stage → ({ s with battery := t.battery } : State).reallocates t.heater)) ∧
  (∀ (s : State) (r : Readings), s.isSettled = true → s.loader.phase = .running → s.atBoundary → r.wellFormed = true →
    ∃ t, exec (.secondBoundaryEvent r) s = .next t ∧
      (600 ≤ t.battery.full → t.battery.testsDue = true ∧ t.battery.low = s.battery.low ∧
        t.battery.recovery = s.battery.recovery ∧ t.battery.stage = s.battery.stage ∧
        t.battery.chgen = s.battery.chgen) ∧
      (t.battery.full < 600 → t.battery.testsDue = false ∧
      (s.battery.stage ≠ .shed → t.battery.recovery = s.battery.recovery ∧
        (10 ≤ t.battery.low → t.battery.stage = s.battery.stage ∧ t.battery.chgen = s.battery.chgen) ∧
        t.battery.low = (if r.voltage < (s.loader.profile.vShed : Int) then s.battery.low + 1 else 0) ∧
        (t.battery.low < 10 →
          t.battery.stage = (match s.battery.stage with
            | .normal => if 100 * t.battery.Q / (3600 * s.loader.profile.capacity) < 40 then .conserve else .normal
            | .conserve =>
              if 45 ≤ 100 * t.battery.Q / (3600 * s.loader.profile.capacity) then .normal
              else if 100 * t.battery.Q / (3600 * s.loader.profile.capacity) < 20 then .reserve else .conserve
            | .reserve => if 25 ≤ 100 * t.battery.Q / (3600 * s.loader.profile.capacity) then .conserve else .reserve
            | .shed => .shed) ∧
          (t.battery.chgen = true ↔ -400 < r.batteryTemp ∧ r.batteryTemp < 850 ∧
            s.loader.profile.chargeMin ≤ r.batteryTemp ∧ r.batteryTemp ≤ s.loader.profile.chargeMax))) ∧
      (s.battery.stage = .shed → t.battery.stage = .shed ∧ t.battery.low = s.battery.low ∧
        t.battery.recovery = (if (s.loader.profile.vShed : Int) + 500 ≤ r.voltage then s.battery.recovery + 1 else 0) ∧
        (t.battery.recovery < 60 → t.battery.chgen = false) ∧
        (60 ≤ t.battery.recovery → t.battery.chgen = s.battery.chgen))))

/-- A character reads back from its samples: where the samples 7, 8 and 9 of every bit time show the bit that R27 puts
there, the receiver reads the data byte, the marker and the stop bit that were sent. An attempt sends its frame's
characters back to back, each bit time at its level, a BEACON's time and class fields filled from the attempt's capture
and class, the check character last; TRUNK is driven low for its 0 bits, and released otherwise, but for the sample of a
drive fault (R26, R27, R28, R38, R40, R42). -/
def Obligations.CharacterReadsBack : Prop :=
  (∀ (w : BitVec 169) (d : Byte) (marker stop : Bool),
    (∀ k n, 1 ≤ k → k ≤ 8 → 7 ≤ n → n ≤ 9 → w.getLsbD (16 * k + n - 1) = d.getLsbD (k - 1)) →
    (∀ n, 7 ≤ n → n ≤ 9 → w.getLsbD (16 * 9 + n - 1) = marker) →
    (∀ n, 7 ≤ n → n ≤ 9 → w.getLsbD (16 * 10 + n - 1) = stop) →
    charData w = d ∧ charMarker w = marker ∧ charStop w = stop) ∧
  (∀ (s : State) (f : TxFrame) (run : TxRun) (front bytes : List Byte), s.trunk.tx = .sending f run →
    front = BitVec.ofNat 8 (f.kind.frame.code + 16 * s.loader.station.val) ::
      (if f.kind = .beacon then leBytes 4 run.field.sec.toNat ++ leBytes 3 run.field.sub
        ++ [BitVec.ofNat 8 ((f.body.getD 7 0).toNat + run.cls.code)] ++ f.body.drop 8 else f.body) →
    bytes = front ++ [crcOf front] →
    (∀ c b, b < 11 → (s.sentLevel f run (11 * c + b) = false ↔ c < bytes.length ∧
      (b = 0 ∨ 1 ≤ b ∧ b ≤ 8 ∧ (bytes.getD c 0).getLsbD (b - 1) = false ∨ b = 9 ∧ c ≠ 0))) ∧
    (s.trunkDriven = true ↔ s.trunk.releasing = true ∨ s.sentLevel f run (run.position / 16) = false)) ∧
  ∀ s : State, (∀ f run, s.trunk.tx ≠ .sending f run) → s.trunkDriven = s.trunk.releasing

/-- FALLING_EDGE starts a character and ends IDLE, and overtakes a hand-over; GLITCH, while the station does not send,
brings the receiver back to hunting; RECEIVER_HUNTS_AGAIN reports the first recessive sample after dominant ones outside a
character, or of the receiver's wait; LINE_IDLE, at 176 samples, drops a frame in assembly as truncated and sets the
receiver hunting once loading has ended; LINE_FAULT, at 352, sets the line state and its mark (R26, R28 to R31, R33, R37).
The model's choices: that the line stands at a level between these reports and when RECEIVER_HUNTS_AGAIN is one (assumption
logs 17 and 36), which samples after a character the timer counts (log 18), what a report that comes late leaves of the
counts (log 19), and that an edge inside the wait starts a character (log 36). -/
def Obligations.LineMovesTheReceiver : Prop :=
  (∀ s : State, s.isSettled = true →
    (s.loader.phase ≠ .held → (∀ n c, s.trunk.receiver ≠ .inChar n c) →
      exec .fallingEdge s = .next { s with trunk := { s.trunk with
        dominant := true, run := 1, idleTimer := 0, tail := 0
        line := if s.trunk.line = .idle then .busy else s.trunk.line
        receiver := if s.trunk.receiver = .off then .off else .inChar 1 s.clock.time
        tx := match s.trunk.tx with
          | .handed f _ b => .handed f true b
          | .idle => .idle
          | .sending f r => .sending f r } }) ∧
    (∀ n c, s.trunk.receiver = .inChar n c → (∀ f r, s.trunk.tx ≠ .sending f r) →
      exec .glitch s = .next { s with trunk := { s.trunk with
        dominant := false, run := 0, idleTimer := 0, receiver := .hunting } }) ∧
    (s.loader.phase ≠ .held → (∀ n c, s.trunk.receiver ≠ .inChar n c) →
      (s.trunk.dominant = true ∨ s.trunk.receiver = .waitRecessive) →
      exec .receiverHuntsAgain s = .next { s with trunk := { s.trunk with
        dominant := false, run := 0
        receiver := if s.trunk.receiver = .waitRecessive then .hunting else s.trunk.receiver
        idleTimer := if s.trunk.tail = 0 then max s.trunk.idleTimer 1 else s.trunk.idleTimer } })) ∧
  (∀ s : State, s.isSettled = true → s.loader.phase ≠ .held → (∀ n c, s.trunk.receiver ≠ .inChar n c) →
    (s.trunk.line ≠ .idle → 176 ≤ s.trunk.idleTimer →
      ∃ t, exec .lineIdle s = .next t ∧ t.trunk.line = .idle ∧ t.trunk.assembler = .noFrame ∧
        ((s.trunk.receiver ≠ .off ∨ s.loader.phase = .running) → t.trunk.receiver = .hunting) ∧
        (s.trunk.receiver = .off → s.loader.phase = .loading → t.trunk.receiver = .off) ∧
        ((∃ a, s.trunk.assembler = .assembling a) → t.trunk.counters =
          { s.trunk.counters with truncated := s.trunk.counters.truncated.increase }) ∧
        ((∀ a, s.trunk.assembler ≠ .assembling a) → t.trunk.counters = s.trunk.counters) ∧
        t = { s with trunk := { s.trunk with
          line := .idle, idleTimer := 176, run := 0, dominant := false, tail := 0, assembler := .noFrame
          receiver := t.trunk.receiver, counters := t.trunk.counters } }) ∧
    (s.trunk.line ≠ .fault → 352 ≤ s.trunk.run → exec .lineFault s = .next { s with trunk := { s.trunk with
      line := .fault, idleTimer := 0, run := 352, dominant := true, faultSeen := true
      tx := match s.trunk.tx with
        | .handed f _ b => .handed f true b
        | .idle => .idle
        | .sending f r => .sending f r } }))

/-- CHARACTER_RECEIVED: a head character with an even kind code starts a frame, dropping one in assembly as truncated, and
an odd one is counted as unknown and discarded; a body character is appended while there is room, stray outside a frame,
ignored while discarding (R28, R32, R33, R34, R36). -/
def Obligations.CharactersAreAssembled : Prop :=
  (∀ (s : State) (w : BitVec 169) (c : Time), s.takesCharacter w c → charStop w = true → charMarker w = true →
    (∀ k, FrameKind.ofCode ((charData w).toNat % 16) = some k → ∀ a, s.trunk.assembler = a →
      exec (.characterReceived w) s = .next { s with
        trunk := s.trunk.after w .hunting (.assembling ⟨k, BitVec.ofNat 4 ((charData w).toNat / 16), [],
            crcByte 0xFF (charData w), c⟩)
          (match a with
            | .assembling _ => { s.trunk.counters with truncated := s.trunk.counters.truncated.increase }
            | .noFrame => s.trunk.counters
            | .discarding => s.trunk.counters) }) ∧
    ((charData w).toNat % 2 = 1 → ∀ a, s.trunk.assembler = a →
      exec (.characterReceived w) s = .next { s with
        trunk := s.trunk.after w .hunting .discarding { s.trunk.counters with truncated := match a with
          | .assembling _ => s.trunk.counters.truncated.increase.increase
          | .noFrame => s.trunk.counters.truncated.increase
          | .discarding => s.trunk.counters.truncated.increase } })) ∧
  (∀ (s : State) (w : BitVec 169) (c : Time), s.takesCharacter w c →
    (charStop w = true → charMarker w = false →
      (s.trunk.assembler = .noFrame → exec (.characterReceived w) s = .next { s with
        trunk := s.trunk.after w .hunting .noFrame
          { s.trunk.counters with stray := s.trunk.counters.stray.increase } }) ∧
      (s.trunk.assembler = .discarding → exec (.characterReceived w) s = .next { s with
        trunk := s.trunk.after w .hunting .discarding s.trunk.counters }) ∧
      (∀ a, s.trunk.assembler = .assembling a → a.body.length < a.kind.bodyLength →
        exec (.characterReceived w) s = .next { s with
          trunk := s.trunk.after w .hunting
            (.assembling { a with body := a.body ++ [charData w], check := crcByte a.check (charData w) })
            s.trunk.counters })))

/-- A character whose stop bit reads dominant is one framing error: it is counted and handed to no assembler, a frame in
assembly is abandoned, and the receiver waits; a report of a further character in the wait changes nothing (assumption
log 3), and a recessive sample sets the receiver hunting (R29). That only a recessive sample ends the wait is not said:
an edge inside it starts a character (assumption log 36). -/
def Obligations.FramingErrorsCountOnce : Prop :=
  (∀ (s : State) (w : BitVec 169) (n : Nat) (c : Time), s.isSettled = true → s.trunk.receiver = .inChar n c →
    w.getLsbD 7 = false → charStop w = false → s.readsBackEqual w →
    ∃ t, exec (.characterReceived w) s = .next t ∧ t.peers = s.peers ∧
      t.trunk = { s.trunk.after w .waitRecessive (if s.trunk.assembler = .discarding then .discarding else .noFrame)
        { s.trunk.counters with framingErrors := s.trunk.counters.framingErrors.increase } with
        tx := t.trunk.tx, own := t.trunk.own } ∧
      ((∀ f r, s.trunk.tx ≠ .sending f r) → t = { s with trunk := { t.trunk with
        tx := s.trunk.tx, own := s.trunk.own } })) ∧
  ∀ (s : State), s.isSettled = true → s.trunk.receiver = .waitRecessive → s.loader.phase ≠ .held →
    (∀ w, exec (.characterReceived w) s = .next s) ∧
    ∃ t, exec .receiverHuntsAgain s = .next t ∧ t.trunk.receiver = .hunting ∧ t.trunk.counters = s.trunk.counters

/-- The check character: equal to the running check, another station's frame goes to the inbound queue, or is an overrun
where it holds four, and this station's own frame was sent, its request leaving as SENT, which the block that made it is
told: the outcome of an ALERT or an ALERT-RAISE and the raise-sent report, the last announced demand of a HEAT, the end of
a REPLY; different, it is a check failure; an earlier character of the own frame moves the attempt on to sample 9 of its
stop bit (R34, R36, R38, R41, R45, R67, R71, R76, R146, R178, R198; that a report of a character stands at that sample is
assumption log 20). -/
def Obligations.CompleteFramesAreTaken : Prop :=
  (∀ (s : State) (w : BitVec 169) (c : Time) (a : Assembly), s.takesCharacter w c → charStop w = true →
    charMarker w = false → s.trunk.assembler = .assembling a → a.body.length = a.kind.bodyLength →
    s.trunk.own = false →
    (charData w = a.check → s.peers.queue.length < 4 → exec (.characterReceived w) s = .next { s with
      trunk := s.trunk.after w .hunting .noFrame s.trunk.counters
      peers := { s.peers with queue := s.peers.queue ++ [⟨a.kind, a.sender, a.body, a.capture⟩] } }) ∧
    (charData w = a.check → 4 ≤ s.peers.queue.length → exec (.characterReceived w) s = .next { s with
      trunk := s.trunk.after w .hunting .noFrame
        { s.trunk.counters with overruns := s.trunk.counters.overruns.increase } }) ∧
    (charData w ≠ a.check → exec (.characterReceived w) s = .next { s with
      trunk := s.trunk.after w .hunting .noFrame
        { s.trunk.counters with checkFailures := s.trunk.counters.checkFailures.increase } })) ∧
  (∀ (s : State) (w : BitVec 169) (n : Nat) (c : Time) (f : TxFrame) (run : TxRun), s.isSettled = true →
    s.trunk.receiver = .inChar n c → w.getLsbD 7 = false → s.readsBackEqual w → s.trunk.own = true →
    s.trunk.tx = .sending f run →
    (run.chars + 1 < f.characters → ∃ t, exec (.characterReceived w) s = .next t ∧ t.sched = s.sched ∧
      t.trunk.tx = .sending f { run with position := 16 * (11 * run.chars + 10) + 8, chars := run.chars + 1 }) ∧
    (∀ (a : Assembly) (r : Request) (next : Option Request), charStop w = true → charMarker w = false →
      s.trunk.assembler = .assembling a → a.body.length = a.kind.bodyLength → charData w = a.check →
      f.characters ≤ run.chars + 1 → s.sched.slots.get f.kind = .inFlight r next →
      ∃ t, exec (.characterReceived w) s = .next t ∧
        t.trunk = { s.trunk.after w .hunting .noFrame s.trunk.counters with tx := .idle, own := false } ∧
        t.sched.slots.get f.kind = (match next with
          | none => .empty
          | some x => .ready x) ∧
        (∀ k, k ≠ f.kind → t.sched.slots.get k = s.sched.slots.get k) ∧
        t.sched.history = ((⟨f.kind, r.time, r.capture, r.attempts, .sent⟩ : HistoryRecord) :: s.sched.history).take 8 ∧
        s.told t f.kind r.ref .sent ∧
        t = { s with
          trunk := t.trunk, sched := t.sched, alerts := t.alerts, co := t.co, heater := t.heater
          service := t.service }))

/-- At sample 8 of a bit, ARBITRATION_LOSS under a recessive level and DRIVE_FAULT under a dominant one end the attempt:
the transmitter becomes idle, the fault is counted, the frame returns to its slot with one attempt more; a loss after the
head character is also a station conflict, and a drive fault empties the assembler, sets the receiver waiting and releases
TRUNK from the next sample. The samples of a character are read back in the same way, bit after bit, and the first unequal
one decides (R38, R39, R40, R49, R68). The model's choices: that a drive fault leaves the idle timer and the line state
(assumption log 38), and that a stop bit at which the attempt was lost is read by its majority, so that no framing error
follows where its sample 8 alone is dominant (log 43). -/
def Obligations.AttemptsAreLost : Prop :=
  ∀ (s : State) (f : TxFrame) (run : TxRun) (r : Request) (peers : Peers) (slots : Slots), s.isSettled = true →
    s.trunk.tx = .sending f run → s.sched.slots.get f.kind = .inFlight r none → r.mark = false → r.deadline = none →
    peers = (if 1 ≤ run.chars then { s.peers with conflictTimer := 600, conflict := true } else s.peers) →
    slots = s.sched.slots.set f.kind (.ready { r with attempts := min (r.attempts + 1) 255 }) →
    (run.position % 16 = 7 → s.sentLevel f run (run.position / 16) = true → exec .arbitrationLoss s = .next { s with
      trunk := { s.trunk with
        tx := .idle, own := false
        counters := if 1 ≤ run.chars then { s.trunk.counters with
            losses := s.trunk.counters.losses.increase, conflicts := s.trunk.counters.conflicts.increase }
          else { s.trunk.counters with losses := s.trunk.counters.losses.increase } }
      peers := peers
      sched := { s.sched with slots := slots } }) ∧
    (∀ t, s.faultedDrive t f r →
      (run.position % 16 = 7 → s.sentLevel f run (run.position / 16) = false → exec .driveFault s = .next t) ∧
      (∀ n c, s.trunk.receiver = .inChar n c →
        (s.sentLevel f run (run.position / 16) = false → exec .glitch s = .next t) ∧
        (∀ w k, k < 11 →
          (∀ j, j < k → w.getLsbD (16 * j + 7) = s.sentLevel f run (11 * run.chars + j)) →
          s.sentLevel f run (11 * run.chars + k) = false → w.getLsbD (16 * k + 7) = true →
          exec (.characterReceived w) s = .next t)) ∧
      t.trunkDriven = true ∧ ({ t with trunk := t.trunk.sample } : State).trunkDriven = false) ∧
    (∀ n c w k, s.trunk.receiver = .inChar n c → k < 11 →
      (∀ j, j < k → w.getLsbD (16 * j + 7) = s.sentLevel f run (11 * run.chars + j)) →
      s.sentLevel f run (11 * run.chars + k) = true → w.getLsbD (16 * k + 7) = false →
      ∃ t, exec (.characterReceived w) s = .next t ∧ t.trunk.tx = .idle ∧ t.trunk.own = false ∧
        t.trunk.counters.losses = s.trunk.counters.losses.increase ∧
        (charStop w = false → t.trunk.counters.framingErrors = s.trunk.counters.framingErrors.increase ∧
          t.trunk.receiver = .waitRecessive ∧ t.peers = peers) ∧
        (charStop w = true → t.trunk.receiver = .hunting ∧ t.peers.rows = peers.rows ∧
          t.peers.conflict = peers.conflict ∧ t.peers.conflictTimer = peers.conflictTimer) ∧
        t.sched = { s.sched with slots := slots })

/-! ### The outbound scheduler -/

/-- A request takes an empty slot, replaces a READY one, which leaves as SUPERSEDED, and waits behind a frame in flight,
replacing a request that waits there; no other slot changes; and the block whose request left is told: the detector counts
an ONSET or a CODA not sent, the heater controller a HEAT, and a tracked ALERT or ALERT-RAISE lapses
(R64, R71, R76, R114, R146, R178, R198). -/
def Obligations.RequestTakesItsSlot : Prop :=
  ∀ (s t : State) (k : TxKind) (r : Request), r.attempts = 0 → r.capture = none → r.mark = false →
    s.request k r.body r.ref r.time r.deadline = t →
    (s.sched.slots.get k = .empty →
      t = { s with sched := { s.sched with slots := s.sched.slots.set k (.ready r) } }) ∧
    (∀ old, s.sched.slots.get k = .ready old → t.sched.slots.get k = .ready r ∧
      t.sched.history = (⟨k, old.time, old.capture, old.attempts, .superseded⟩ :: s.sched.history).take 8 ∧
      s.told t k old.ref .superseded) ∧
    (∀ f, s.sched.slots.get k = .inFlight f none →
      t = { s with sched := { s.sched with slots := s.sched.slots.set k (.inFlight f (some r)) } }) ∧
    (∀ f old, s.sched.slots.get k = .inFlight f (some old) → t.sched.slots.get k = .inFlight f (some r) ∧
      t.sched.history = (⟨k, old.time, old.capture, old.attempts, .superseded⟩ :: s.sched.history).take 8 ∧
      s.told t k old.ref .superseded) ∧
    (∀ j, j ≠ k → t.sched.slots.get j = s.sched.slots.get j) ∧
    t = { s with
      sched := t.sched, co := t.co, alerts := t.alerts, heater := t.heater, service := t.service, detector := t.detector }

/-- CHOICE hands the READY frame of highest priority to the transmitter, in the order ALERT, ALERT-RAISE, ONSET, CODA,
BEACON, HEAT, REPLY, and its slot becomes IN-FLIGHT; TX_START, once a sample boundary has passed, begins it with its tx
capture, its time class and the own flag, or cancels the hand-over where a dominant sample came first
(R32, R37, R63, R65, R66). -/
def Obligations.FramesAreChosenAndBegun : Prop :=
  (∀ (s : State) (k : TxKind) (r : Request) (order : List TxKind), s.isSettled = true → s.loader.phase = .running →
    s.trunk.line = .idle → s.trunk.tx = .idle → s.sched.slots.get k = .ready r →
    order = [.alert, .alertRaise, .onset, .coda, .beacon, .heat, .reply] →
    (∀ j x, order.idxOf j < order.idxOf k → s.sched.slots.get j ≠ .ready x) →
    exec .choice s = .next { s with
      sched := { s.sched with slots := s.sched.slots.set k (.inFlight r none) }
      trunk := { s.trunk with tx := .handed ⟨k, r.body⟩ false false } }) ∧
  (∀ (s : State) (f : TxFrame) (r : Request) (w : Option Request), s.isSettled = true →
    s.sched.slots.get f.kind = .inFlight r w →
    (s.trunk.tx = .handed f false true → exec .txStart s = .next { s with
      trunk := { s.trunk with
        tx := .sending f ⟨0, 0, s.clock.time, s.timeClass, s.clock.time⟩, own := true }
      sched := { s.sched with
        slots := s.sched.slots.set f.kind (.inFlight { r with capture := some s.clock.time } w) } }) ∧
    (s.trunk.tx = .handed f true true → r.mark = false → w = none → r.deadline = none →
      exec .txStart s = .next { s with
        trunk := { s.trunk with tx := .idle }
        sched := { s.sched with slots := s.sched.slots.set f.kind (.ready r) } }))

/-- A frame that returns from the transmitter is withdrawn where it is marked, else superseded where a request waits, else
expired where its deadline has passed, else READY again, and the block that made it is told. A withdrawal of an ALERT or an
ALERT-RAISE takes a READY or waiting request, and the record's PENDING outcome becomes YIELDED or LAPSED and is counted;
it marks one in flight, and the outcome stays PENDING with its cause recorded; and it changes nothing where none is held
(R68, R70, R71, R76, R114, R146, R147, R149, R152, R157, R178, R198). -/
def Obligations.FramesReturnOrAreWithdrawn : Prop :=
  (∀ (s : State) (k : TxKind) (f r : Request) (w : Option Request) (lost : Bool),
    s.sched.slots.get k = .inFlight f w →
    r = (if lost then { f with attempts := min (f.attempts + 1) 255 } else f) →
    (f.mark = true → (s.returned k lost).sched.slots.get k = (match w with
        | none => .empty
        | some x => .ready x) ∧
      (s.returned k lost).sched.history =
        (⟨k, r.time, r.capture, r.attempts, .withdrawn⟩ :: s.sched.history).take 8 ∧
      s.told (s.returned k lost) k f.ref .withdrawn) ∧
    (∀ x, f.mark = false → w = some x → (s.returned k lost).sched.slots.get k = .ready x ∧
      (s.returned k lost).sched.history =
        (⟨k, r.time, r.capture, r.attempts, .superseded⟩ :: s.sched.history).take 8 ∧
      s.told (s.returned k lost) k f.ref .superseded) ∧
    (∀ d, f.mark = false → w = none → f.deadline = some d → 0 ≤ s.clock.time.diff d →
      (s.returned k lost).sched.slots.get k = .empty ∧
      (s.returned k lost).sched.history =
        (⟨k, r.time, r.capture, r.attempts, .expired⟩ :: s.sched.history).take 8 ∧
      s.told (s.returned k lost) k f.ref .expired) ∧
    (f.mark = false → w = none → (∀ d, f.deadline = some d → s.clock.time.diff d < 0) →
      s.returned k lost = { s with sched := { s.sched with slots := s.sched.slots.set k (.ready r) } })) ∧
  (∀ (s : State) (j : AlertKind) (serial : BitVec 8) (cause : Cause) (f r : Request) (w : Option Request),
    (s.sched.slots.get j.holder = .ready r → r.ref = .serial serial →
      (s.withdraw j serial cause).sched = { s.sched with
        slots := s.sched.slots.set j.holder .empty
        history := (⟨j.holder, r.time, r.capture, r.attempts, .withdrawn⟩ :: s.sched.history).take 8 }) ∧
    (s.sched.slots.get j.holder = .inFlight f (some r) → f.ref ≠ .serial serial → r.ref = .serial serial →
      (s.withdraw j serial cause).sched = { s.sched with
        slots := s.sched.slots.set j.holder (.inFlight f none)
        history := (⟨j.holder, r.time, r.capture, r.attempts, .withdrawn⟩ :: s.sched.history).take 8 }) ∧
    (s.sched.slots.get j.holder = .inFlight f w → f.ref = .serial serial →
      s.withdraw j serial cause = { s with
        sched := { s.sched with slots := s.sched.slots.set j.holder (.inFlight { f with mark := true } w) }
        alerts := { s.alerts with tracking := s.alerts.tracking.map (fun x =>
          if x.kind = j ∧ x.serial = serial ∧ x.cause = .none then { x with cause := cause } else x) } }) ∧
    (s.sched.slots.get j.holder = .empty → s.withdraw j serial cause = s)) ∧
  (∀ (s : State) (j : AlertKind) (e : Event) (cause : Cause), s.event e.serial = some e → e.outcomeOf j = .pending →
    s.takesBack (s.withdraw j e.serial cause) j e.serial cause (if cause = .yield then .yielded else .lapsed))

/-- REQUEST_DEADLINE: a BEACON, a HEAT or a REPLY whose deadline station time has reached leaves its slot, or its waiting
place, as EXPIRED; the heater controller and the service responder are told (R69, R71, R178, R198). -/
def Obligations.DeadlinesExpireRequests : Prop :=
  ∀ (s : State) (k : TxKind) (c : DeadlineKind) (r : Request) (d : Time), s.isSettled = true →
    s.loader.phase = .running → (c = .beacon ∧ k = .beacon ∨ c = .heat ∧ k = .heat ∨ c = .reply ∧ k = .reply) →
    r.deadline = some d → 0 ≤ s.clock.time.diff d →
    (s.sched.slots.get k = .ready r ∨ (∃ f, s.sched.slots.get k = .inFlight f (some r))) →
    ∃ t, exec (.requestDeadline c) s = .next t ∧
      (s.sched.slots.get k = .ready r → t.sched.slots.get k = .empty) ∧
      (∀ f, s.sched.slots.get k = .inFlight f (some r) → t.sched.slots.get k = .inFlight f none) ∧
      (∀ j, j ≠ k → t.sched.slots.get j = s.sched.slots.get j) ∧
      t.sched.history = (⟨k, r.time, r.capture, r.attempts, .expired⟩ :: s.sched.history).take 8 ∧
      (k = .heat → t.heater = { s.heater with counters := { s.heater.counters with
        notSent := min (s.heater.counters.notSent + 1) 65535 } }) ∧ (k ≠ .heat → t.heater = s.heater) ∧
      (k = .reply → t.service = { s.service with
        pendingReply := none
        counters := { s.service.counters with expired := min (s.service.counters.expired + 1) 65535 } }) ∧
      (k ≠ .reply → t.service = s.service) ∧
      t = { s with sched := t.sched, heater := t.heater, service := t.service }

/-- BEACON_CANDIDATE_POINT: the point is taken, and where the station second is a multiple of the stage's period (B, twice
B in CONSERVE, four times B in RESERVE and SHED) the BEACON is requested for the point, with 500 ms to its deadline
(R69, R73, R74, R75). -/
def Obligations.BeaconsAreRequestedAtTheirPoints : Prop :=
  ∀ (s : State) (p : Time) (period : Nat), s.isSettled = true → s.loader.phase = .running →
    p = ⟨s.clock.time.sec, 500000 * s.loader.station.val⟩ →
    500000 * s.loader.station.val ≤ s.clock.time.sub →
    s.clock.time.sub < 500000 * s.loader.station.val + s.clock.advanced →
    s.clock.time.sec.toNat % s.loader.profile.beaconPeriod = 0 →
    (∀ q, s.sched.lastCandidate = some q → 0 < p.diff q) →
    period = (match s.battery.stage with
      | .normal => s.loader.profile.beaconPeriod
      | .conserve => 2 * s.loader.profile.beaconPeriod
      | .reserve => 4 * s.loader.profile.beaconPeriod
      | .shed => 4 * s.loader.profile.beaconPeriod) →
    (s.clock.time.sec.toNat % period ≠ 0 → exec .beaconCandidatePoint s = .next { s with
      sched := { s.sched with lastCandidate := some p } }) ∧
    (s.clock.time.sec.toNat % period = 0 → exec .beaconCandidatePoint s = .next
      (({ s with sched := { s.sched with lastCandidate := some p } } : State).request .beacon
        (List.replicate 7 0
          ++ [BitVec.ofNat 8 (8 * s.clock.state.code + 64 * s.battery.stage.code), BitVec.ofNat 8 s.soc,
            BitVec.ofNat 8 (bit s.loader.disturbed + 2 * bit s.loader.defaultFlag + 4 * bit s.peers.conflict)])
        (.stamp p) p (some (p.add 5000000))))

/-! ### The peer table -/

/-- The head of the inbound queue is discarded, counted or applied by the filter, and ALERT and ALERT-RAISE entries that
pass it are handed to the coincidence unit (R46, R48, R49, R59, R121). -/
def Obligations.FramesAreFilteredAndHandedOn : Prop :=
  (∀ (s : State) (e : InEntry) (rest : List InEntry), s.takesEntry e rest →
    (e.sender.toNat = s.loader.station.val → exec e.kind.instr s = .next { s with
      peers := { s.peers with queue := rest, conflictTimer := 600, conflict := true }
      trunk := { s.trunk with counters := { s.trunk.counters with
        conflicts := s.trunk.counters.conflicts.increase } } }) ∧
    (14 ≤ e.sender.toNat → e.kind ≠ .query → exec e.kind.instr s = .next { s with
      peers := { s.peers with queue := rest } }) ∧
    (e.sender.toNat < 14 → e.sender.toNat ≠ s.loader.station.val →
      s.loader.profile.peerSet.getLsbD e.sender.toNat = false → e.kind ≠ .alert → e.kind ≠ .alertRaise →
      exec e.kind.instr s = .next { s with peers := { s.peers with
        queue := rest
        counters := { s.peers.counters with outside := min (s.peers.counters.outside + 1) 65535 } } }) ∧
    (s.passes e → e.kind = .reply → exec .inboundReply s = .next { s with peers := { s.peers with queue := rest } })) ∧
  (∀ (s : State) (e : InEntry) (rest : List InEntry), s.takesEntry e rest →
    e.sender.toNat < 14 → e.sender.toNat ≠ s.loader.station.val →
    (e.kind = .alert → exec .inboundAlert s = .next { s with
      peers := { s.peers with queue := rest, hand := some e }
      co := { s.co with waiting := s.co.waiting ++ [.heardAlert e.sender e.body] } }) ∧
    (e.kind = .alertRaise → exec .inboundAlertRaise s = .next { s with
      peers := { s.peers with queue := rest, hand := some e }
      co := { s.co with waiting := s.co.waiting ++ [.heardRaise e.sender e.body] } }))

/-- INBOUND_BEACON while no re-examination acts (the clock LOCKED or in ACQUIRE) and INBOUND_HEAT write the sender's time
part and heat part from the frame, and no other row (R51, R52, R53, R58, R202). -/
def Obligations.BeaconsAndHeatsWriteTheirRow : Prop :=
  ∀ (s : State) (e : InEntry) (rest : List InEntry) (n : Station) (x : HeatPart),
    s.takesEntry e rest → s.passes e → n.val = e.sender.toNat →
    x = { demand := field e.body 0 2, urgent := min (field e.body 2 2) (field e.body 0 2), age := 0 } →
    (e.kind = .beacon → (s.clock.state = .locked ∨ s.clock.state = .acquire) →
      exec .inboundBeacon s = .next (s.withTimePart rest n e.timePart)) ∧
    (e.kind = .heat → exec .inboundHeat s = .next { s with
      peers := ({ s.peers with queue := rest } : Peers).setRow n { s.peers.row n with heat := some x } })

/-- INBOUND_BEACON: once the time part is set the clock examines its candidates and sources again, in every clock state:
an entry to PEER-STEERED from UNSET or HOLDOVER by the median of the sources, the exit where no candidate is left, the
restart of a pending peer interval, or nothing. A fresh BEACON of class T0 or T1, the only source, brings a clock in UNSET
to PEER-STEERED: within 2000 cycles the interval starts from its offset; beyond, station time steps by the offset with
cause PEER-ENTRY, a whole step as StepMovesHeldTimes states it (R18, R19, R20, R21, R22, R23, R54). -/
def Obligations.BeaconsBeginPeerSteering : Prop :=
  (∀ (s : State) (e : InEntry) (rest : List InEntry) (n : Station), s.takesEntry e rest → s.passes e →
    n.val = e.sender.toNat → e.kind = .beacon →
    ∃ t, exec .inboundBeacon s = .next t ∧ (s.withTimePart rest n e.timePart).reexamines t) ∧
  ∀ (s : State) (e : InEntry) (rest : List InEntry) (n : Station) (p : TimePart), s.takesEntry e rest → s.passes e →
    n.val = e.sender.toNat → e.kind = .beacon → p = e.timePart → (p.cls = .t0 ∨ p.cls = .t1) → p.stale = false →
    s.clock.state = .unset →
    (∀ m q, m ≠ n → m ≠ s.loader.station → (s.peers.row m).time = some q →
      (q.cls ≠ .t0 ∧ q.cls ≠ .t1) ∨ q.stale = true) →
    (p.offset.natAbs ≤ 2000 → exec .inboundBeacon s = .next { s.withTimePart rest n p with
      clock := { s.clock with
        state := .peerSteered, steeringClass := some .t4, restartPending := false, P := 0
        interval := .peer p.offset s.clock.time, d := adjustment s.clock.time.sec s.clock.F 0 } }) ∧
    (2000 < p.offset.natAbs → ∃ t, exec .inboundBeacon s = .next t ∧ t.clock.state = .peerSteered ∧
      t.clock.steeringClass = some .t4 ∧ t.clock.time = s.clock.time.add (-p.offset) ∧ t.clock.P = 0 ∧
      t.clock.F = s.clock.F ∧ t.clock.interval = .peer 0 t.clock.time ∧ t.clock.epoch = s.clock.epoch + 1 ∧
      (t.clock.log.map (fun l => l.cause)).head? = some .peerEntry ∧
      (t.peers.row n).time = some { p with stale := true } ∧ t.timeClass = .t2 ∧
      (s.withTimePart rest n p).peerEntry t .t4 p.offset)

/-- INBOUND_ONSET: a late onset and a repeated one are counted and change no row; any other sets the sender's trigger
part and asks for a vote. INBOUND_CODA: where the sender's trigger part holds its onset time, the summary is attached and
a peak request made; else it is unmatched and changes no row (R46, R55, R57, R121, R202). That an ONSET both late and
repeated is counted as late only is the model's choice (assumption log 39). -/
def Obligations.OnsetsAndCodasWriteTheirRow : Prop :=
  (∀ (s : State) (e : InEntry) (rest : List InEntry) (n : Station) (p : TriggerPart), s.takesEntry e rest →
    s.passes e → n.val = e.sender.toNat → e.kind = .onset →
    p =
      { onset := ⟨BitVec.ofNat 32 (field e.body 0 4), field e.body 4 3⟩
        cls := TimeClass.ofCode (field e.body 7 1 % 8)
        disturbed := decide (field e.body 7 1 / 8 % 2 = 1)
        inexact := decide (field e.body 7 1 / 16 % 2 = 1)
        ratio := field e.body 8 1, consumed := false, summary := none, lapsed := false } →
    ((10000000 ≤ p.onset.sub ∨ 10000000 * (s.loader.profile.E : Int) < s.clock.time.diff p.onset) →
      exec .inboundOnset s = .next { s with peers := { s.peers with
        queue := rest, counters := { s.peers.counters with late := min (s.peers.counters.late + 1) 65535 } } }) ∧
    (p.onset.sub < 10000000 → s.clock.time.diff p.onset ≤ 10000000 * (s.loader.profile.E : Int) →
      ((∃ q, (s.peers.row n).trigger = some q ∧ q.onset = p.onset) →
        exec .inboundOnset s = .next { s with peers := { s.peers with
          queue := rest, counters := { s.peers.counters with repeated := min (s.peers.counters.repeated + 1) 65535 } } }) ∧
      ((∀ q, (s.peers.row n).trigger = some q → q.onset ≠ p.onset) →
        exec .inboundOnset s = .next { s with
          peers := ({ s.peers with queue := rest, hand := some e } : Peers).setRow n
            { s.peers.row n with trigger := some p }
          co := { s.co with waiting := s.co.waiting ++ [.vote .peerTable n p.onset] } }))) ∧
  (∀ (s : State) (e : InEntry) (rest : List InEntry) (n : Station) (onset : Time) (x : Summary), s.takesEntry e rest →
    s.passes e → n.val = e.sender.toNat → e.kind = .coda →
    onset = ⟨BitVec.ofNat 32 (field e.body 0 4), field e.body 4 3⟩ →
    x =
      { peak := min (field e.body 7 3) 8388607, peakOffset := min (field e.body 10 2) 60000
        duration := min (field e.body 12 2) 60000, reason := EndReason.ofCode (field e.body 14 1) } →
    (∀ q, onset.sub < 10000000 → (s.peers.row n).trigger = some q → q.onset = onset →
      exec .inboundCoda s = .next { s with
        peers := ({ s.peers with queue := rest, hand := some e } : Peers).setRow n
          { s.peers.row n with trigger := some { q with summary := some x } }
        co := { s.co with waiting := s.co.waiting ++ [.peak .peerTable n onset x.peak] } }) ∧
    ((10000000 ≤ onset.sub ∨ ∀ q, (s.peers.row n).trigger = some q → q.onset ≠ onset) →
      exec .inboundCoda s = .next { s with peers := { s.peers with
        queue := rest
        counters := { s.peers.counters with unmatchedCoda := min (s.peers.counters.unmatchedCoda + 1) 65535 } } }))

/-- INBOUND_QUERY from any number but the own: for another station it is discarded; for this one it is dropped while a
REPLY is pending, and else answered by a REPLY request of the topic, the index byte and sixteen data bytes, which hold the
fields of the topic's page in their order, with topic 15 and zeros where topic or index is refused
(R23, R44, R48, R50, R60, R62, R69, R77, R116, R129, R196, R197, R199, R204). The fields of absent things stay open
(assumption log 30), page 8 of topic 4 is read by the index (assumption log 40), and the QUERY answered is among those
that its REPLY counts as taken (assumption log 37). -/
def Obligations.QueriesAreAnswered : Prop :=
  ∀ (s : State) (e : InEntry) (rest : List InEntry) (topic k page : Nat) (index : Byte), s.takesEntry e rest →
    e.kind = .query → e.sender.toNat ≠ s.loader.station.val →
    (e.sender.toNat < 14 → s.loader.profile.peerSet.getLsbD e.sender.toNat = true) →
    topic = field e.body 0 1 / 16 % 16 → index = e.body.getD 1 0 → k = index.toNat % 16 →
    page = index.toNat / 16 % [4, 2, 1, 4, 12, 2, 5, 3, 1].getD topic 1 →
    (field e.body 0 1 % 16 ≠ s.loader.station.val → exec .inboundQuery s = .next { s with
      peers := { s.peers with queue := rest } }) ∧
    (field e.body 0 1 % 16 = s.loader.station.val → s.service.pendingReply ≠ none →
      exec .inboundQuery s = .next { s with
        peers := { s.peers with queue := rest }
        service := { s.service with counters := { s.service.counters with
          busyDrops := min (s.service.counters.busyDrops + 1) 65535 } } }) ∧
    (field e.body 0 1 % 16 = s.loader.station.val → s.service.pendingReply = none → s.sched.slots.reply = .empty →
      ∀ (accepted : Bool) (counters : ServiceCounters),
        (accepted = true ↔ topic ≤ 8 ∧ (topic = 2 → k ≤ 3) ∧ (topic = 4 → k ≤ 7) ∧ (topic = 5 → k ≤ 13) ∧
          (topic = 8 → k ≤ 7)) →
        counters = { s.service.counters with
          taken := min (s.service.counters.taken + 1) 65535
          refused := if accepted then s.service.counters.refused
            else min (s.service.counters.refused + 1) 65535 } →
        ∃ data : List Byte, data.length = 16 ∧
          (accepted = false → data = List.replicate 16 0) ∧
          (accepted = true → holdsFields data 0
            (({ s with service := { s.service with counters := counters } } : State).pageFields topic k page)) ∧
          ∀ (top : Nat) (r : Request), top = (if accepted then topic else 15) →
            r =
              { body := BitVec.ofNat 8 top :: index :: data, ref := .query top index, time := s.clock.time
                deadline := some (s.clock.time.add 50000000), attempts := 0, capture := none, mark := false } →
            exec .inboundQuery s = .next { s with
              peers := { s.peers with queue := rest }
              free := s.free + 1
              service := { s.service with pendingReply := some (top, index), counters := counters }
              sched := { s.sched with slots := { s.sched.slots with reply := .ready r } } })

/-- The limit steps of the peer table: the station-conflict flag falls with its timer, and a part that has reached its
age becomes absent, alone in its row; when a time part has gone the clock examines its candidates again in every clock
state, and without any candidate left a peer-steered clock falls to HOLDOVER (R16, R18, R20, R21, R49, R54, R61). -/
def Obligations.AgedPartsBecomeAbsent : Prop :=
  ∀ (s : State) (n : Station),
    (s.peers.conflict = true → s.peers.conflictTimer = 0 →
      exec .stationConflictExpiry s = .next { s with peers := { s.peers with conflict := false } }) ∧
    (∀ p, (s.peers.row n).heat = some p → 180 ≤ p.age → exec (.heatPartAgeOut n) s = .next { s with
      peers := s.peers.setRow n { s.peers.row n with heat := none } }) ∧
    (∀ p, (s.peers.row n).trigger = some p → p.lapsed = true → exec (.triggerPartAgeOut n) s = .next { s with
      peers := s.peers.setRow n { s.peers.row n with trigger := none } }) ∧
    (∀ p, (s.peers.row n).time = some p → 48 ≤ p.age →
      (∃ t, exec (.timePartAgeOut n) s = .next t ∧ ({ s with
        peers := s.peers.setRow n { s.peers.row n with time := none } } : State).reexamines t) ∧
      ((s.clock.state = .locked ∨ s.clock.state = .acquire) → exec (.timePartAgeOut n) s = .next { s with
        peers := s.peers.setRow n { s.peers.row n with time := none } }) ∧
      (s.clock.state = .peerSteered → (∀ m q, m ≠ n → m ≠ s.loader.station → (s.peers.row m).time = some q →
          q.cls ≠ .t0 ∧ q.cls ≠ .t1) →
        exec (.timePartAgeOut n) s = .next { s with
          peers := s.peers.setRow n { s.peers.row n with time := none }
          clock := { s.clock with
            state := .holdover, interval := .none, restartPending := false, acquirePending := false, age := 0
            aged := false, P := 0, d := adjustment s.clock.time.sec s.clock.F 0 } }))

/-! ### Sample intake -/

/-- Port frames bring sets of 72 bits into the elastic store, which drops the oldest when it is full; ticks deliver the
oldest set, repeat the last one where the store is empty, and prime the intake at half its depth
(R79, R80, R81, R82, R83, R84, R85, R87, R88, R92). -/
def Obligations.SetsEnterAndLeaveTheStore : Prop :=
  (∀ s : State, s.isSettled = true → s.loader.phase = .running → s.battery.loadoff = false →
    (s.intake.frame = none → exec .portFrameOpen s = .next { s with intake := { s.intake with frame := some 0 } }) ∧
    (∀ n, s.intake.frame = some n → exec .portFrameClose s = .next { s with intake := { s.intake with
      frame := none
      counters := { s.intake.counters with
        incomplete := if n < 72 then min (s.intake.counters.incomplete + 1) 65535 else s.intake.counters.incomplete
        } } }) ∧
    (∀ (z n e : BitVec 24) (k : Nat) (x : SetEntry) (store : List SetEntry), s.intake.frame = some k → k < 72 →
      x = ⟨⟨z.toInt, n.toInt, e.toInt⟩, s.clock.time.add (-((s.loader.profile.latency * 10 : Nat) : Int)),
        s.clock.epoch⟩ →
      store = (if s.intake.store.length < s.loader.profile.depth then s.intake.store else s.intake.store.drop 1) ++ [x] →
      exec (.setArrival (z ++ n ++ e)) s = .next { s with intake := { s.intake with
        frame := some 72, store := store
        counters := { s.intake.counters with
          slipDrops := if s.intake.store.length < s.loader.profile.depth then s.intake.counters.slipDrops
            else min (s.intake.counters.slipDrops + 1) 65535 }
        state := match s.intake.state with
          | .priming => if s.loader.profile.depth / 2 ≤ store.length then .running else .priming
          | .stalled => .priming
          | .running => .running
        empty := if s.intake.state = .stalled ∨
          s.intake.state = .priming ∧ s.loader.profile.depth / 2 ≤ store.length then 0 else s.intake.empty } })) ∧
  (∀ (s : State) (p : Time), s.isSettled = true → s.loader.phase = .running → s.atTick p →
    (s.intake.state ≠ .running → exec .tick s = .next { s with intake := { s.intake with latestTick := some p } }) ∧
    (∀ e rest, s.intake.state = .running → s.intake.store = e :: rest →
      exec .tick s = .next (State.handSet { s with intake := { s.intake with
        latestTick := some p, store := rest, last := some ⟨e.values, e.stamp⟩, empty := 0 } }
        ⟨e.values, e.stamp⟩ (decide (e.epoch ≠ s.clock.epoch)))) ∧
    (∀ x, s.intake.state = .running → s.intake.store = [] → s.intake.last = some x →
      exec .tick s = .next (State.handSet { s with intake := { s.intake with
        latestTick := some p, last := some ⟨x.values, x.stamp.add 100000⟩, empty := s.intake.empty + 1
        counters := { s.intake.counters with slipRepeats := min (s.intake.counters.slipRepeats + 1) 65535 } } }
        ⟨x.values, x.stamp.add 100000⟩ true)))

/-- A set handed to the detector. In WARMUP, in ARMED below the on test, or in HOLDOFF: the estimates, the averages and the
ratio, and the count of the state. In HALTED: it seeds the estimates, and is the first set of WARMUP. In TRIGGERED: the
averages, the duration and the peak; the strong report, once, with the ALERT-RAISE request it makes or the declined count;
and the normal end by the off test, with the summary, the peak request, the CODA request and the heater's notice
(R94 to R100, R102, R103, R104, R107, R108, R109, R112, R113, R151). -/
def Obligations.QuietSetsUpdateTheAverages : Prop :=
  (∀ (s : State) (x : Delivered) (inexact : Bool), s.intake.state = .running → s.battery.stage ≠ .shed →
    ∃ (t : State) (c : Nat), s.handSet x inexact = t ∧
      ((s.detector.state = .warmup ∨ s.detector.state = .holdoff ∨ s.detector.state = .armed ∧
          16 * t.detector.S < s.loader.profile.rOn * max t.detector.L (s.loader.profile.floor * 256)) →
        s.arithmetic x.values t.detector c ∧
        t.detector.warmup = (if s.detector.state = .warmup then s.detector.warmup + 1 else s.detector.warmup) ∧
        t.detector.holdoff = (if s.detector.state = .holdoff then s.detector.holdoff + 1 else s.detector.holdoff) ∧
        t = { s with detector := { s.detector with
          dcZ := t.detector.dcZ, dcN := t.detector.dcN, dcE := t.detector.dcE, S := t.detector.S, L := t.detector.L
          ratio := t.detector.ratio, warmup := t.detector.warmup, holdoff := t.detector.holdoff } })) ∧
  (∀ (s : State) (x : Delivered) (inexact : Bool), s.intake.state = .running → s.battery.stage ≠ .shed →
    s.detector.state = .halted → s.handSet x inexact = { s with detector := { s.detector with
      state := .warmup
      dcZ := if s.loader.profile.channelZ then x.values.z * 256 else s.detector.dcZ
      dcN := if s.loader.profile.channelN then x.values.n * 256 else s.detector.dcN
      dcE := if s.loader.profile.channelE then x.values.e * 256 else s.detector.dcE
      S := 0, L := 0, warmup := 1
      ratio := if s.loader.profile.floor = 0 then 255 else 0
      counters := { s.detector.counters with warmups := min (s.detector.counters.warmups + 1) 65535 } } }) ∧
  (∀ (s : State) (x : Delivered) (inexact : Bool) (c : Nat) (d : Detector) (r0 r : TriggerRecord),
    s.intake.state = .running → s.battery.stage ≠ .shed → s.detector.state = .triggered →
    s.detector.record = some r0 → s.arithmetic x.values d c → r = r0.after c →
    ((∀ e, ¬ s.isStrong r e) →
      s.loader.profile.rOff * max d.L (s.loader.profile.floor * 256) ≤ 16 * d.S →
      s.handSet x inexact = { s with detector := { s.detector.averaged d with record := some r } }) ∧
    ((∀ e, ¬ s.isStrong r e) →
      16 * d.S < s.loader.profile.rOff * max d.L (s.loader.profile.floor * 256) → s.sched.slots.coda = .empty →
      ∃ (t : State) (q : Request), s.handSet x inexact = t ∧
        q = { body := codaBody { r with reason := .normal }, ref := .stamp r.onset, time := s.clock.time
              deadline := none, attempts := 0, capture := none, mark := false } ∧
        t.detector = { s.detector.averaged d with
          state := if s.loader.profile.holdoff = 0 then .armed else .holdoff, holdoff := 0
          record := some { r with reason := .normal } } ∧
        t.sched.slots = { s.sched.slots with coda := .ready q } ∧ s.tellsEnd t { r with reason := .normal } ∧
        t = { s with detector := t.detector, peers := t.peers, sched := t.sched, co := t.co, heater := t.heater }) ∧
    (∀ (e : Event) (d1 : Detector), s.isStrong r e →
      s.loader.profile.rOff * max d.L (s.loader.profile.floor * 256) ≤ 16 * d.S →
      d1 = { s.detector.averaged d with
        record := some { r with strongReported := true }
        counters := { s.detector.counters with
          strongReports := min (s.detector.counters.strongReports + 1) 65535 } } →
      (e.raiseOutcome ≠ .none → s.handSet x inexact = { s with
        detector := d1
        alerts := { s.alerts with counters := { s.alerts.counters with
          declinedStrong := min (s.alerts.counters.declinedStrong + 1) 65535 } } }) ∧
      (∀ q, e.raiseOutcome = .none → s.sched.slots.alertRaise = .empty →
        q = { body := leBytes 4 e.origin.sec.toNat ++ leBytes 3 e.origin.sub ++ [BitVec.ofNat 8 e.originStation.val]
                ++ leBytes 3 r.peak
              ref := .serial e.serial, time := s.clock.time, deadline := none, attempts := 0, capture := none
              mark := false } →
        s.handSet x inexact = { s with
          detector := d1
          sched := { s.sched with slots := { s.sched.slots with alertRaise := .ready q } }
          alerts := { s.alerts with tracking := s.alerts.tracking ++ [⟨.raise, e.serial, .none⟩] }
          co := { s.co with events := s.co.events.map (fun y =>
            if y.serial = e.serial then { y with raiseOutcome := .pending } else y) } })))

/-- A set that passes the on test in ARMED is the onset set: TRIGGERED, with the estimates, the averages and the ratio of
that set, the trigger record, the own row's trigger part, the ONSET request, the vote and the heater controller's notice
(R95 to R99, R104, R105, R106, R121, R182). -/
def Obligations.OnsetSetsTrigger : Prop :=
  ∀ (s : State) (x : Delivered) (inexact : Bool) (c : Nat) (d : Detector),
    s.intake.state = .running → s.battery.stage ≠ .shed → s.detector.state = .armed → s.arithmetic x.values d c →
    s.loader.profile.rOn * max d.L (s.loader.profile.floor * 256) ≤ 16 * d.S → s.sched.slots.onset = .empty →
    s.heater.triggered = false →
    ∃ (t : State) (r : TriggerRecord) (part : TriggerPart) (q : Request), s.handSet x inexact = t ∧
      t.detector = { s.detector.averaged d with
        state := .triggered, record := some r
        counters := { s.detector.counters with onsets := min (s.detector.counters.onsets + 1) 65535 } } ∧
      r = { onset := x.stamp, cls := s.timeClass, disturbed := s.loader.disturbed, inexact := inexact
            ratio := d.ratio, peak := c, peakOffset := 0, duration := 0, strongReported := false, reason := .absent } ∧
      part = { onset := x.stamp, cls := s.timeClass, disturbed := s.loader.disturbed, inexact := inexact
               ratio := d.ratio, consumed := false, summary := none, lapsed := false } ∧
      t.peers = s.peers.setRow s.loader.station { s.peers.row s.loader.station with trigger := some part } ∧
      q = { body := onsetBody r, ref := .stamp x.stamp, time := s.clock.time, deadline := none, attempts := 0
            capture := none, mark := false } ∧
      t.sched.slots = { s.sched.slots with onset := .ready q } ∧
      t.co = { s.co with waiting := s.co.waiting ++ [.vote .detector s.loader.station x.stamp] } ∧
      t.heater.triggered = true ∧ (s.heater.hold = .idle → t.heater.hold = .holding s.clock.time) ∧
      t = { s with detector := t.detector, peers := t.peers, sched := t.sched, co := t.co, heater := t.heater }

/-- After 2^S_long sets of warm-up, and after the holdoff, the detector is ARMED; after ten empty ticks, the tenth set's
handling being complete, the intake is STALLED, and the detector, its run condition lost, is HALTED, ending a trigger in
progress by halt: counted, with L as it was, the summary attached to the own row, its peak asked for and its CODA requested.
FORCED_END: a trigger of the maximum duration ends by force; L takes S, and this end too attaches the summary to the own
row, asks for its peak and requests its CODA (R85, R86, R94, R101, R103, R107, R110, R111, R112, R113, R121, R182). -/
def Obligations.DetectorLimitsAndStalls : Prop :=
  (∀ s : State,
    (s.detector.state = .warmup → 2 ^ s.loader.profile.sLong ≤ s.detector.warmup →
      exec .warmupEnd s = .next { s with detector := { s.detector with state := .armed } }) ∧
    (s.detector.state = .holdoff → s.loader.profile.holdoff * 100 ≤ s.detector.holdoff →
      exec .holdoffEnd s = .next { s with detector := { s.detector with state := .armed } })) ∧
  (∀ s : State, s.intake.state = .running → 10 ≤ s.intake.empty →
    (∀ r, s.detector.state = .triggered → s.detector.record = some r →
      r.duration < s.loader.profile.maxDuration * 100) →
    ∃ t, exec .stall s = .next t ∧ t.detector.state = .halted ∧
      t.intake = { s.intake with
        state := .stalled, counters := { s.intake.counters with stalls := min (s.intake.counters.stalls + 1) 65535 } } ∧
      (s.detector.state ≠ .triggered → t = { s with
        intake := t.intake, detector := { s.detector with state := .halted, warmup := 0, holdoff := 0 } }) ∧
      (∀ r, s.detector.state = .triggered → s.detector.record = some r →
        t.detector.record = some { r with reason := .halted } ∧ t.heater.triggered = false ∧
        t.co.waiting = s.co.waiting ++ [.peak .detector s.loader.station r.onset r.peak] ∧
        t.detector.counters.haltedEnds = min (s.detector.counters.haltedEnds + 1) 65535 ∧
        (s.sched.slots.coda = .empty → t.detector = { s.detector with
            state := .halted, warmup := 0, holdoff := 0, record := some { r with reason := .halted }
            counters := { s.detector.counters with
              haltedEnds := min (s.detector.counters.haltedEnds + 1) 65535 } } ∧
          s.tellsEnd t { r with reason := .halted } ∧ t = { s with
            intake := t.intake, detector := t.detector, peers := t.peers, sched := t.sched, co := t.co
            heater := t.heater }))) ∧
  (∀ (s : State) (r0 r : TriggerRecord), s.detector.state = .triggered → s.detector.record = some r0 →
    r = { r0 with reason := .forced } → s.loader.profile.maxDuration * 100 ≤ r0.duration →
    s.sched.slots.coda = .empty →
    ∃ (t : State) (x : Request), exec .forcedEnd s = .next t ∧
      x = { body := codaBody r, ref := .stamp r.onset, time := s.clock.time, deadline := none, attempts := 0
            capture := none, mark := false } ∧
      t.detector = { s.detector with
        state := if s.loader.profile.holdoff = 0 then .armed else .holdoff, holdoff := 0, L := s.detector.S
        record := some r
        counters := { s.detector.counters with forcedEnds := min (s.detector.counters.forcedEnds + 1) 65535 } } ∧
      t.sched.slots = { s.sched.slots with coda := .ready x } ∧ s.tellsEnd t r ∧
      t = { s with detector := t.detector, peers := t.peers, sched := t.sched, co := t.co, heater := t.heater })

/-! ### The coincidence unit -/

/-- VOTE: an anchor whose part is absent, replaced or not eligible is dropped and counted; one in the open event's span
joins it, consumed; the unit is done either way (R120, R121, R122, R123). -/
def Obligations.VotesJoinOrAreDropped : Prop :=
  ∀ (s : State) (source : Source) (n : Station) (onset : Time) (rest : List CoRequest),
    s.takesRequest (.vote source n onset) rest →
    ((∀ p, (s.peers.row n).trigger = some p → p.onset ≠ onset ∨ p.consumed = true ∨ p.disturbed = true ∨
        p.cls = .t3 ∨ p.cls = .t4) →
      exec .vote s = .next { s with
        co := { s.co with
          waiting := rest
          counters := { s.co.counters with dropped := min (s.co.counters.dropped + 1) 65535 } }
        peers := s.peers.doneFor source }) ∧
    (∀ p e, (s.peers.row n).trigger = some p → p.onset = onset → p.consumed = false → p.disturbed = false →
      p.cls ≠ .t3 → p.cls ≠ .t4 → s.openEvent = some e →
      -(1000000 * (s.loader.profile.W : Int)) ≤ onset.diff e.origin →
      onset.diff e.origin ≤ 10000000 * (s.loader.profile.E : Int) →
      exec .vote s = .next { s with
        co := { s.co with
          waiting := rest
          events := s.co.events.map (fun x => if x.serial = e.serial then x.joined n p else x)
          counters := { s.co.counters with joins := min (s.co.counters.joins + 1) 65535 } }
        peers := (s.peers.setRow n { s.peers.row n with trigger := some { p with consumed := true } }).doneFor
          source })

/-- VOTE below the threshold changes nothing. At the threshold, the origin is the earliest onset: with a record within W of
it, the declaration folds into the nearest, its members consumed and taken in, and no event opens; with none, it declares
an event: the members consumed, the open event closed by replacement, the oldest of eight records removed, a new open
record of level 1 at the newest end, its serial and the declarations counted, an opening told to the annunciator and the
heater controller unless one was open, and by the station's rank the ALERT request or the deference timer
(R120, R124, R125, R126, R127, R129, R130, R131, R143, R145, R149, R150, R154, R182). -/
def Obligations.VotesDeclareEvents : Prop :=
  ∀ (s : State) (source : Source) (n : Station) (onset : Time) (rest : List CoRequest) (ms : List Member),
    s.votes source n onset rest → ms = s.candidateSet onset →
    (weightSum ms < s.loader.profile.V → exec .vote s = .next { s with
      co := { s.co with waiting := rest }, peers := s.peers.doneFor source }) ∧
    (∀ o e, s.loader.profile.V ≤ weightSum ms → isOrigin ms o →
      nearestRecord s.loader.profile o.part.onset s.co.events = some e →
      ∃ q, s.peers.consumedBy q ms ∧ exec .vote s = .next { s with
        co := { s.co with
          waiting := rest
          events := s.co.events.map (fun x => if x.serial = e.serial then x.joinedAll ms else x)
          counters := { s.co.counters with folds := min (s.co.counters.folds + 1) 65535 } }
        peers := q.doneFor source }) ∧
    (∀ o, s.loader.profile.V ≤ weightSum ms → isOrigin ms o →
      (∀ x ∈ s.co.events, 1000000 * s.loader.profile.W < (x.origin.diff o.part.onset).natAbs) →
      (∀ x ∈ s.co.events, x.serial ≠ s.co.serial) → s.co.events.length ≤ 8 → s.closesQuietly →
      ∃ (t : State) (r new : Event) (q : Peers), exec .vote s = .next t ∧
        new = ({ serial := s.co.serial, origin := o.part.onset, originStation := o.station, level := 1, weight := 0
                 contributors := 0, members := Vector.replicate 14 none, adopted := false, isOpen := true
                 declaredAt := s.clock.time, alertOutcome := .none, raiseOutcome := .none
                 peak := none } : Event).joinedAll ms ∧
        r = { new with alertOutcome := if new.position s.loader.station = 0 then .pending else .deferring } ∧
        t.co.events.head? = some r ∧ t.co.serial = s.co.serial + 1 ∧ t.co.waiting = rest ∧
        t.co.counters = { s.co.counters with declarations := min (s.co.counters.declarations + 1) 65535 } ∧
        s.peers.consumedBy q ms ∧ t.peers = q.doneFor source ∧
        (s.openEvent = none → t.heater.eventOpen = true ∧ t.alerts.annState = .waiting ∧ t.alerts.ann = false) ∧
        (s.openEvent ≠ none → t.heater = s.heater) ∧
        ((new.position s.loader.station = 0 → s.sched.slots.alert = .empty) →
          t.co.events = r :: s.eventsClosed.take 7 ∧ s.openedAfter t) ∧
        (0 < new.position s.loader.station → t.sched = s.sched ∧ t.alerts.tracking = s.alerts.tracking ∧
          t.alerts.deference = some ⟨s.co.serial,
            s.clock.time.add (10000 * (new.position s.loader.station * s.loader.profile.D) : Nat)⟩) ∧
        (∀ x, new.position s.loader.station = 0 → s.sched.slots.alert = .empty →
          x = { body := alertBody r, ref := .serial s.co.serial, time := s.clock.time, deadline := none, attempts := 0
                capture := none, mark := false } →
          t.alerts.deference = s.timerAfter ∧
          t.alerts.tracking = s.alerts.tracking ++ [⟨.alert, s.co.serial, .none⟩] ∧
          t.sched = { s.sched with slots := { s.sched.slots with alert := .ready x } }) ∧
        t = { s with co := t.co, peers := t.peers, sched := t.sched, alerts := t.alerts, heater := t.heater })

/-- The record that a stamp matches is one of the list within W of it, and none of the list lies nearer; of records equally
near it is the newest, the one that stands first, for every record before it lies farther; where none matches, every record
lies farther than W (R125, R134). -/
def Obligations.NearestRecordMatches : Prop :=
  ∀ (p : Profile) (t : Time) (l : List Event),
    (∀ e, nearestRecord p t l = some e → e ∈ l ∧ (e.origin.diff t).natAbs ≤ 1000000 * p.W ∧
      (∀ x ∈ l, (e.origin.diff t).natAbs ≤ (x.origin.diff t).natAbs) ∧
      ∃ newer older, l = newer ++ e :: older ∧
        ∀ x ∈ newer, (e.origin.diff t).natAbs < (x.origin.diff t).natAbs) ∧
    (nearestRecord p t l = none → ∀ x ∈ l, 1000000 * p.W < (x.origin.diff t).natAbs)

/-- HEARD_ALERT: a malformed frame is counted; a frame that matches a record raises its level, contributors and weight, and
a deferring alert of that record is yielded, and a pending one withdrawn, or marked where it is in flight; one that matches none is adopted: the open event closed by replacement, the
oldest of eight records removed, a new open record with the eligible parts of its span swept in and consumed, a heard
contributor's weight not added again, an opening told unless one was open, and nothing sent for it
(R119, R129, R130, R131, R134, R135, R136, R137, R147, R149, R150, R157). -/
def Obligations.HeardAlertsMatchOrAreAdopted : Prop :=
  ∀ (s : State) (sender : BitVec 4) (body : List Byte) (rest : List CoRequest) (origin : Time) (station level set w : Nat),
    s.takesRequest (.heardAlert sender body) rest →
    origin = ⟨BitVec.ofNat 32 (field body 0 4), field body 4 3⟩ → station = field body 7 1 % 16 →
    level = field body 7 1 / 16 % 4 → set = field body 8 2 % 16384 → w = field body 10 1 →
    ((13 < station ∨ 10000000 ≤ origin.sub ∨ (level ≠ 1 ∧ level ≠ 2) ∨ set = 0) → exec .heardAlert s = .next { s with
      co := { s.co with
        waiting := rest
        counters := { s.co.counters with malformed := min (s.co.counters.malformed + 1) 65535 } }
      peers := { s.peers with hand := none } }) ∧
    (∀ e events, station ≤ 13 → origin.sub < 10000000 → (level = 1 ∨ level = 2) → set ≠ 0 →
      nearestRecord s.loader.profile origin s.co.events = some e → s.event e.serial = some e →
      events = s.co.events.map (fun x => if x.serial = e.serial then { x with
        level := max x.level level, contributors := x.contributors ||| BitVec.ofNat 14 set, weight := max x.weight w }
        else x) →
      (e.alertOutcome ≠ .deferring → e.alertOutcome ≠ .pending → exec .heardAlert s = .next { s with
        co := { s.co with waiting := rest, events := events }, peers := { s.peers with hand := none } }) ∧
      (∀ x, e.alertOutcome = .deferring → s.alerts.deference = some ⟨e.serial, x⟩ → exec .heardAlert s = .next { s with
        co := { s.co with
          waiting := rest
          events := events.map (fun x => if x.serial = e.serial then { x with alertOutcome := .yielded } else x) }
        alerts := { s.alerts with
          deference := none
          counters := { s.alerts.counters with alertsYielded := min (s.alerts.counters.alertsYielded + 1) 65535 } }
        peers := { s.peers with hand := none } }) ∧
      (e.alertOutcome = .pending → ∃ t, exec .heardAlert s = .next t ∧ State.takesBack { s with
        co := { s.co with waiting := rest, events := events }
        peers := { s.peers with hand := none } } t .alert e.serial .yield .yielded)) ∧
    (∀ ms, station ≤ 13 → origin.sub < 10000000 → (level = 1 ∨ level = 2) → set ≠ 0 →
      nearestRecord s.loader.profile origin s.co.events = none → ms = s.spanSet origin →
      (∀ x ∈ s.co.events, x.serial ≠ s.co.serial) → s.co.events.length ≤ 8 → s.closesQuietly →
      ∃ (t : State) (r : Event) (q : Peers), exec .heardAlert s = .next t ∧
        r = ({ serial := s.co.serial, origin := origin, originStation := Fin.ofNat 14 station, level := level
               weight := w, contributors := BitVec.ofNat 14 set, members := Vector.replicate 14 none, adopted := true
               isOpen := true, declaredAt := s.clock.time, alertOutcome := .none, raiseOutcome := .none
               peak := none } : Event).sweptAll (BitVec.ofNat 14 set) ms ∧
        t.co = { s.co with
          waiting := rest, events := r :: s.eventsClosed.take 7, serial := s.co.serial + 1
          counters := { s.co.counters with adoptions := min (s.co.counters.adoptions + 1) 65535 } } ∧
        s.peers.consumedBy q ms ∧ t.peers = { q with hand := none } ∧ s.openedAfter t ∧
        t.alerts.deference = s.timerAfter ∧ t.alerts.tracking = s.alerts.tracking ∧
        t = { s with co := t.co, peers := t.peers, heater := t.heater, alerts := t.alerts })

/-- HEARD_ALERT_RAISE: a match raises the record to level 2 and folds the peak, and a pending raise of that record is
withdrawn, or marked where it is in flight; unmatched or malformed it is counted;
PEAK_REQUEST folds a peak into the open event where it holds the onset; RAISE_SENT sets the level to 2
(R121, R133, R134, R138, R139, R152). -/
def Obligations.RaisesAndPeaksReachTheirRecord : Prop :=
  (∀ (s : State) (sender : BitVec 4) (body : List Byte) (rest : List CoRequest) (origin : Time) (peak : Nat),
    s.takesRequest (.heardRaise sender body) rest →
    origin = ⟨BitVec.ofNat 32 (field body 0 4), field body 4 3⟩ → peak = min (field body 8 3) 8388607 →
    ((13 < field body 7 1 % 16 ∨ 10000000 ≤ origin.sub) → exec .heardAlertRaise s = .next { s with
      co := { s.co with
        waiting := rest
        counters := { s.co.counters with malformed := min (s.co.counters.malformed + 1) 65535 } }
      peers := { s.peers with hand := none } }) ∧
    (field body 7 1 % 16 ≤ 13 → origin.sub < 10000000 →
      (nearestRecord s.loader.profile origin s.co.events = none → exec .heardAlertRaise s = .next { s with
        co := { s.co with
          waiting := rest
          counters := { s.co.counters with unmatchedRaises := min (s.co.counters.unmatchedRaises + 1) 65535 } }
        peers := { s.peers with hand := none } }) ∧
      (∀ e events, nearestRecord s.loader.profile origin s.co.events = some e → s.event e.serial = some e →
        events = s.co.events.map (fun x => if x.serial = e.serial then { x with
          level := 2
          peak := match x.peak with
            | none => some peak
            | some y => some (max y peak) } else x) →
        (e.raiseOutcome ≠ .pending → exec .heardAlertRaise s = .next { s with
          co := { s.co with waiting := rest, events := events }
          peers := { s.peers with hand := none } }) ∧
        (e.raiseOutcome = .pending → ∃ t, exec .heardAlertRaise s = .next t ∧ State.takesBack { s with
          co := { s.co with waiting := rest, events := events }
          peers := { s.peers with hand := none } } t .raise e.serial .yield .yielded)))) ∧
  (∀ (s : State) (rest : List CoRequest),
    (∀ source n onset peak, s.takesRequest (.peak source n onset peak) rest →
      (∀ e, s.openEvent = some e → e.members[n.val] = some onset → exec .peakRequest s = .next { s with
        co := { s.co with
          waiting := rest
          events := s.co.events.map (fun x => if x.serial = e.serial then { x with
            peak := match x.peak with
              | none => some peak
              | some y => some (max y peak) } else x) }
        peers := s.peers.doneFor source }) ∧
      ((∀ e, s.openEvent = some e → e.members[n.val] ≠ some onset) → exec .peakRequest s = .next { s with
        co := { s.co with waiting := rest }, peers := s.peers.doneFor source })) ∧
    (∀ serial, s.takesRequest (.raiseSent serial) rest → exec .raiseSent s = .next { s with
      co := { s.co with
        waiting := rest
        events := s.co.events.map (fun x => if x.serial = serial then { x with level := 2 } else x) } }))

/-- EVENT_CLOSING_TIME, E seconds after the declaration, asks for the closing of the open record; CLOSING_EXPIRY closes it
if it is still open, with the annunciator stopped and the heater controller told, and changes nothing if not. A closing, by
expiry as by replacement, resolves both outcomes of the record: DEFERRING lapses with its timer, and a PENDING request is
withdrawn, or marked where it is in flight, the ALERT before the ALERT-RAISE, which is the model's choice
(R121, R130, R131, R149, R156, R182; assumption log 41). -/
def Obligations.EventsCloseAtTheirTime : Prop :=
  ∀ (s : State) (e : Event),
    (s.isSettled = true → s.loader.phase = .running → s.openEvent = some e →
      0 ≤ s.clock.time.diff (e.declaredAt.add (10000000 * s.loader.profile.E : Nat)) →
      CoRequest.closing e.serial ∉ s.co.waiting →
      exec .eventClosingTime s = .next { s with co := { s.co with
        waiting := s.co.waiting ++ [.closing e.serial] } }) ∧
    (∀ rest, s.takesRequest (.closing e.serial) rest → s.event e.serial = some e →
      (e.isOpen = false → exec .closingExpiry s = .next { s with co := { s.co with waiting := rest } }) ∧
      (e.isOpen = true → ∃ v t, State.closes { s with co := { s.co with waiting := rest } } v e ∧
        exec .closingExpiry s = .next t ∧
        t.alerts = { v.alerts with annState := .off, slot := 0, level := 0, slotPoint := none, ann := false } ∧
        t.heater.eventOpen = false ∧
        (s.heater.eventOpen = true → s.heater.triggered = false → t.heater.hold = .idle) ∧
        t = { v with alerts := t.alerts, heater := t.heater })) ∧
    (s.openEvent = some e → s.event e.serial = some e → s.closes s.closeOpen e)

/-! ### The alert unit -/

/-- DEFERENCE_EXPIRY requests the ALERT of the record as it stands, tracked by its serial; the outcome becomes PENDING and
the timer is cleared (R144, R145). -/
def Obligations.DeferenceEndsInAnAlert : Prop :=
  ∀ (s : State) (e : Event) (x : Time) (r : Request), s.isSettled = true → s.loader.phase = .running →
    s.alerts.deference = some ⟨e.serial, x⟩ → 0 ≤ s.clock.time.diff x → s.event e.serial = some e →
    s.sched.slots.alert = .empty →
    r =
      { body := leBytes 4 e.origin.sec.toNat ++ leBytes 3 e.origin.sub
          ++ [BitVec.ofNat 8 (e.originStation.val + 16 * e.level)] ++ leBytes 2 e.contributors.toNat ++ leBytes 1 e.weight
        ref := .serial e.serial, time := s.clock.time, deadline := none, attempts := 0, capture := none, mark := false } →
    exec .deferenceExpiry s = .next { s with
      sched := { s.sched with slots := { s.sched.slots with alert := .ready r } }
      alerts := { s.alerts with deference := none, tracking := s.alerts.tracking ++ [⟨.alert, e.serial, .none⟩] }
      co := { s.co with events := s.co.events.map (fun y =>
        if y.serial = e.serial then { y with alertOutcome := .pending } else y) } }

/-- ANNUNCIATOR_SLOT: at a quarter second inside the second the annunciator moves to the next slot of its pattern, or
after the last to slot 0 of the pattern of the open record's level, and ANN follows the slot's bit (R153, R155). -/
def Obligations.QuarterSecondsMoveTheAnnunciator : Prop :=
  ∀ (s : State) (q : Nat) (p : Time), s.isSettled = true → s.loader.phase = .running → s.alerts.annState = .playing →
    (q = 2500000 ∨ q = 5000000 ∨ q = 7500000) → q ≤ s.clock.time.sub → s.clock.time.sub < q + s.clock.advanced →
    s.clock.advanced ≤ 2 → p = ⟨s.clock.time.sec, q⟩ → s.alerts.slotPoint ≠ some p →
    (s.alerts.slot + 1 < (s.loader.profile.pattern s.alerts.level).2 → exec .annunciatorSlot s = .next { s with
      alerts := { s.alerts with
        slot := s.alerts.slot + 1, slotPoint := some p
        ann := (s.loader.profile.pattern s.alerts.level).1.getLsbD (s.alerts.slot + 1) } }) ∧
    (∀ e, (s.loader.profile.pattern s.alerts.level).2 ≤ s.alerts.slot + 1 → s.openEvent = some e →
      exec .annunciatorSlot s = .next { s with alerts := { s.alerts with
        slot := 0, level := e.level, slotPoint := some p, ann := (s.loader.profile.pattern e.level).1.getLsbD 0 } })

/-! ### The battery monitor -/

/-- FULL_RESYNC at a full count of 600: Q becomes Qcap, the charge counts as learned, the full count returns to 0 and the
resync is counted; inside a reading the stage tests follow, which a full charge takes one step up outside SHED and leaves
alone in SHED, with their counts and CHGEN; where the stage changes it is counted, and the heater controller allocates
again (R159, R163, R164, R165, R166, R168, R169, R172, R181). -/
def Obligations.FullResyncFillsTheCharge : Prop :=
  ∀ (s : State), 600 ≤ s.battery.full → 0 < s.loader.profile.capacity →
    ∃ t, exec .fullResync s = .next t ∧
      t.battery.Q = 3600 * s.loader.profile.capacity ∧ t.battery.learned = true ∧ t.battery.full = 0 ∧
      t.battery.counters.fullResyncs = min (s.battery.counters.fullResyncs + 1) 65535 ∧ t.battery.testsDue = false ∧
      t.battery.loadoff = s.battery.loadoff ∧
      (s.battery.testsDue = false → t = { s with battery := { s.battery with
        Q := 3600 * s.loader.profile.capacity, learned := true, full := 0
        counters := { s.battery.counters with
          fullResyncs := min (s.battery.counters.fullResyncs + 1) 65535 } } }) ∧
      (s.battery.testsDue = true → s.battery.stage ≠ .shed → t.battery.low < 10 → t.battery.stage =
        (match s.battery.stage with
        | .normal => .normal
        | .conserve => .normal
        | .reserve => .conserve
        | .shed => .shed)) ∧
      (s.battery.testsDue = true → s.battery.stage = .shed → t.battery.stage = .shed ∧ t.heater = s.heater ∧
        t.battery.low = s.battery.low ∧ (t.battery.recovery < 60 → t.battery.chgen = false) ∧
        ∀ v, s.battery.voltage = some v → t.battery.recovery =
          (if (s.loader.profile.vShed : Int) + 500 ≤ v then s.battery.recovery + 1 else 0)) ∧
      (s.battery.testsDue = true → s.battery.stage ≠ .shed → t.battery.recovery = s.battery.recovery ∧
        (∀ v, s.battery.voltage = some v →
          t.battery.low = (if v < (s.loader.profile.vShed : Int) then s.battery.low + 1 else 0)) ∧
        (10 ≤ t.battery.low → t.battery.stage = s.battery.stage) ∧
        (t.battery.low < 10 → (t.battery.chgen = true ↔ s.battery.batteryFault = false ∧
          ∃ x, s.battery.batteryTemp = some x ∧ s.loader.profile.chargeMin ≤ x ∧ x ≤ s.loader.profile.chargeMax))) ∧
      (t.battery.stage = s.battery.stage → t.heater = s.heater) ∧
      (t.battery.stage ≠ s.battery.stage → ({ s with battery := t.battery } : State).reallocates t.heater ∧
        t.heater.computationDue = s.heater.computationDue) ∧
      t.battery = { s.battery with
        Q := t.battery.Q, learned := true, full := 0, low := t.battery.low, recovery := t.battery.recovery
        stage := t.battery.stage, testsDue := false, chgen := t.battery.chgen
        counters := { s.battery.counters with
          fullResyncs := t.battery.counters.fullResyncs
          stageChanges := if t.battery.stage = s.battery.stage then s.battery.counters.stageChanges
            else min (s.battery.counters.stageChanges + 1) 65535 } } ∧
      t = { s with battery := t.battery, heater := t.heater }

/-- SHED_ENTRY at a low-voltage count of 10: the resync to a tenth of the capacity, both counts 0, LOADOFF asserted, CHGEN
deasserted, the port closed, the detector HALTED, a trigger in progress ended by halt with all that every trigger end tells,
no heat; SHED_EXIT at a recovery count of 60: RESERVE, LOADOFF deasserted, CHGEN by the temperature, the heaters still off
(R81, R101, R111, R112, R121, R165, R166, R167, R168, R169, R181, R182, R184). -/
def Obligations.ShedIsEnteredAndLeft : Prop :=
  (∀ (s : State), s.battery.stage ≠ .shed → 10 ≤ s.battery.low →
    ∃ t, exec .shedEntry s = .next t ∧
      t.battery = { s.battery with
        Q := min s.battery.Q (3600 * s.loader.profile.capacity / 10), low := 0, recovery := 0, stage := .shed
        loadoff := true, chgen := false
        counters := { s.battery.counters with
          shedEntries := min (s.battery.counters.shedEntries + 1) 65535
          stageChanges := min (s.battery.counters.stageChanges + 1) 65535 } } ∧
      t.intake = { s.intake with frame := none } ∧ t.detector.state = .halted ∧ t.heater.budget = 0 ∧
      t.heater.out0 = false ∧ t.heater.out1 = false ∧ t.clock = s.clock ∧ t.loader = s.loader ∧ t.trunk = s.trunk ∧
      (s.detector.state ≠ .triggered →
        t.detector = { s.detector with state := .halted, warmup := 0, holdoff := 0 } ∧
        ({ s with battery := t.battery } : State).reallocates t.heater ∧
        t.heater.computationDue = s.heater.computationDue ∧
        t = { s with battery := t.battery, intake := t.intake, detector := t.detector, heater := t.heater }) ∧
      (s.detector.state = .triggered →
        t.detector.counters.haltedEnds = min (s.detector.counters.haltedEnds + 1) 65535) ∧
      (∀ r, s.detector.state = .triggered → s.detector.record = some r →
        t.detector.record = some { r with reason := .halted } ∧ t.heater.triggered = false ∧
        t.co.waiting = s.co.waiting ++ [.peak .detector s.loader.station r.onset r.peak] ∧
        (s.sched.slots.coda = .empty → t.detector = { s.detector with
            state := .halted, warmup := 0, holdoff := 0, record := some { r with reason := .halted }
            counters := { s.detector.counters with
              haltedEnds := min (s.detector.counters.haltedEnds + 1) 65535 } } ∧
          s.tellsEnd t { r with reason := .halted } ∧ t = { s with
            battery := t.battery, intake := t.intake, detector := t.detector, peers := t.peers, sched := t.sched
            co := t.co, heater := t.heater }))) ∧
  (∀ (s : State), s.battery.stage = .shed → 60 ≤ s.battery.recovery →
    ∃ t, exec .shedExit s = .next t ∧
      t.battery = { s.battery with
        recovery := 0, loadoff := false, stage := .reserve, chgen := t.battery.chgen
        counters := { s.battery.counters with
          stageChanges := min (s.battery.counters.stageChanges + 1) 65535 } } ∧
      (t.battery.chgen = true ↔ s.battery.batteryFault = false ∧ ∃ x, s.battery.batteryTemp = some x ∧
        s.loader.profile.chargeMin ≤ x ∧ x ≤ s.loader.profile.chargeMax) ∧
      t.heater.budget = 0 ∧ t.heater.out0 = false ∧ t.heater.out1 = false ∧
      ({ s with battery := t.battery } : State).reallocates t.heater ∧
      t.heater.computationDue = s.heater.computationDue ∧
      t = { s with battery := t.battery, heater := t.heater })

/-! ### The heater controller -/

/-- COMPUTATION, its requests, demand and announcement: each request from its temperature and setpoint, 0 without a usable
reading; the own demand, its urgent part and the own row's heat part; and a HEAT request 5 s before its deadline where the
demand has moved by a sixteenth of the budget and none was made within 10 s, none otherwise
(R175, R176, R178; that the 10 s include their end is assumption log 31). -/
def Obligations.DemandIsComputedAndAnnounced : Prop :=
  (∀ (s : State), s.computes → ∃ t, exec .computation s = .next t ∧
    ((s.battery.batteryFault = true ∨ s.battery.batteryTemp = none) → t.heater.h0 = 0 ∧ t.heater.h0Urgent = false) ∧
    (∀ x, s.battery.batteryFault = false → s.battery.batteryTemp = some x →
      (t.heater.h0 : Int) = (if x < s.loader.profile.warmSetpoint
        then min ((s.loader.profile.warmSetpoint - x) * (s.loader.profile.gain : Int) / 10) 32 else 0) ∧
      (t.heater.h0Urgent = true ↔ x < s.loader.profile.chargeMin)) ∧
    ((s.battery.enclosureFault = true ∨ s.battery.enclosureTemp = none) → t.heater.h1 = 0) ∧
    (∀ x, s.battery.enclosureFault = false → s.battery.enclosureTemp = some x →
      (t.heater.h1 : Int) = (if x < s.loader.profile.enclosureSetpoint
        then min ((s.loader.profile.enclosureSetpoint - x) * (s.loader.profile.gain : Int) / 10) 32 else 0)) ∧
    t.heater.demand0 = t.heater.h0 * s.loader.profile.rating0 / 32 ∧
    t.heater.demand1 = t.heater.h1 * s.loader.profile.rating1 / 32 ∧
    t.heater.demand = t.heater.demand0 + t.heater.demand1 ∧
    t.heater.urgent = (if t.heater.h0Urgent then t.heater.demand0 else 0) ∧
    (t.peers.row s.loader.station).heat = some ⟨t.heater.demand, t.heater.urgent, 0⟩ ∧
    (∀ n, n ≠ s.loader.station → t.peers.row n = s.peers.row n) ∧
    t = { s with heater := t.heater, peers := t.peers, sched := t.sched }) ∧
  (∀ (s t : State) (r : Request), s.computes → exec .computation s = .next t →
    r =
      { body := leBytes 2 t.heater.demand ++ leBytes 2 t.heater.urgent, ref := .demand t.heater.demand
        time := s.clock.time, deadline := some (s.clock.time.add 50000000), attempts := 0, capture := none
        mark := false } →
    (s.heater.announced = none ∨ ∃ a, s.heater.announced = some a ∧
      max 1 (s.loader.profile.bVault / 16) ≤ ((t.heater.demand : Int) - (a : Int)).natAbs) →
    (∀ x, s.heater.lastRequest = some x → 100000000 < s.clock.time.diff x) → s.sched.slots.heat = .empty →
      t.heater.lastRequest = some s.clock.time ∧
      t.sched = { s.sched with slots := { s.sched.slots with heat := .ready r } }) ∧
  (∀ (s t : State), s.computes → exec .computation s = .next t →
    ((∃ a, s.heater.announced = some a ∧
      ((t.heater.demand : Int) - (a : Int)).natAbs < max 1 (s.loader.profile.bVault / 16)) ∨
     (∃ x, s.heater.lastRequest = some x ∧ s.clock.time.diff x ≤ 100000000)) →
      t.sched = s.sched ∧ t.heater.lastRequest = s.heater.lastRequest ∧ t.heater.counters = s.heater.counters)

/-- COMPUTATION, its allocation: the sums over the heat parts of the table, the budget of the stage, and the grant by the
first case that holds; the grant never exceeds the own demand or the stage budget (R179). A change of stage makes an
allocation too, from the demand as it stands and with no request or announcement (R169, R181): the readings, resyncs and
SHED steps that make one are ReadingsDriveTheStage, FullResyncFillsTheCharge and ShedIsEnteredAndLeft. What is said of it
supposes that the own row's heat part holds that demand, or that no computation has yet been made: then the own demand is
0, the own row has no heat part, and the grant is 0. -/
def Obligations.HeatIsGranted : Prop :=
  (∀ (s : State) (x : Stage), ∃ u : State, s.changeStage x = u.allocate ∧ u.battery.stage = x ∧
    u.heater = s.heater ∧ u = { s with battery := u.battery } ∧
    u.allocate = { u with heater := u.allocate.heater } ∧ u.allocate.heater.demand = s.heater.demand ∧
    u.allocate.heater.urgent = s.heater.urgent ∧ u.allocate.heater.h0 = s.heater.h0 ∧
    u.allocate.heater.h1 = s.heater.h1 ∧ u.allocate.heater.announced = s.heater.announced ∧
    u.allocate.heater.lastRequest = s.heater.lastRequest) ∧
  ∀ (s t : State), (s.computes ∧ exec .computation s = .next t ∨
      t = s.allocate ∧ s.heater.urgent ≤ s.heater.demand ∧
        ((∃ p, (s.peers.row s.loader.station).heat = some p ∧ p.demand = s.heater.demand ∧
          p.urgent = s.heater.urgent) ∨
         (s.peers.row s.loader.station).heat = none ∧ s.heater.demand = 0)) →
    t.heater.U = ((stations.filterMap (fun n => (t.peers.row n).heat)).map (fun p => p.urgent)).sum ∧
    t.heater.Nh = ((stations.filterMap (fun n => (t.peers.row n).heat)).map (fun p => p.demand - p.urgent)).sum ∧
    t.heater.budget = (match s.battery.stage with
      | .normal => s.loader.profile.bVault
      | .conserve => s.loader.profile.bVault / 2
      | .reserve => 0
      | .shed => 0) ∧
    t.heater.G = (if t.heater.U + t.heater.Nh ≤ t.heater.budget then t.heater.demand
      else if t.heater.budget ≤ t.heater.U then
        (if t.heater.U = 0 then 0 else t.heater.urgent * t.heater.budget / t.heater.U)
      else t.heater.urgent
        + (t.heater.demand - t.heater.urgent) * (t.heater.budget - t.heater.U) / t.heater.Nh) ∧
    t.heater.G ≤ t.heater.demand ∧ t.heater.G ≤ t.heater.budget

/-- The grant is divided, H0 first, into each heater's steps, which never exceed its request, and the outputs take the new
steps at once; the allocation of a stage notice divides in the same way (R180). -/
def Obligations.GrantIsDivided : Prop :=
  (∀ (s t : State), s.computes → exec .computation s = .next t →
    t.heater.steps0 ≤ t.heater.h0 ∧ t.heater.steps1 ≤ t.heater.h1) ∧
  ∀ (s t : State), (s.computes ∧ exec .computation s = .next t ∨ t = s.allocate) →
    t.heater.grant0 = min t.heater.G t.heater.demand0 ∧ t.heater.grant1 = t.heater.G - t.heater.grant0 ∧
    t.heater.steps0 = t.heater.grant0 * 32 / s.loader.profile.rating0 ∧
    t.heater.steps1 = t.heater.grant1 * 32 / s.loader.profile.rating1 ∧
    (t.heater.out0 = true ↔ s.drives (625000 * s.loader.station.val) t.heater.steps0) ∧
    (t.heater.out1 = true ↔ s.drives ((625000 * s.loader.station.val + 5000000) % 10000000) t.heater.steps1)

/-- ANNOUNCEMENT_POINT, once a minute at the station's own offset: a HEAT request with the demand and urgent part of the
latest computation, 5 s before its deadline (R177, R178). -/
def Obligations.DemandIsAnnouncedEachMinute : Prop :=
  ∀ (s : State) (p : Time) (new : Request), s.isSettled = true → s.loader.phase = .running →
    new =
      { body := leBytes 2 s.heater.demand ++ leBytes 2 s.heater.urgent, ref := .demand s.heater.demand
        time := s.clock.time, deadline := some (s.clock.time.add 50000000), attempts := 0, capture := none
        mark := false } →
    p = ⟨s.clock.time.sec, 250000 + 500000 * s.loader.station.val⟩ → p.sub ≤ s.clock.time.sub →
    s.clock.time.sub < p.sub + s.clock.advanced → p.sec.toNat % 60 = 0 →
    (∀ q, s.heater.lastPoint = some q → 0 < p.diff q) →
    ∃ t, exec .announcementPoint s = .next t ∧ t.heater.lastPoint = some p ∧
      t.heater.lastRequest = some s.clock.time ∧ t.heater.demand = s.heater.demand ∧
      (s.sched.slots.heat = .empty → t = { s with
        heater := { s.heater with lastPoint := some p, lastRequest := some s.clock.time }
        sched := { s.sched with slots := { s.sched.slots with heat := .ready new } } }) ∧
      (∀ r, s.sched.slots.heat = .ready r →
        t.sched.slots.heat = .ready new ∧
        t.sched.history.head? = some ⟨.heat, r.time, r.capture, r.attempts, .superseded⟩ ∧
        t.heater.counters.notSent = min (s.heater.counters.notSent + 1) 65535) ∧
      t = { s with heater := t.heater, sched := t.sched }

/-- The quiet hold follows the triggered and event-open flags, and HOLD_LIMIT, after its limit of counted time, makes it
SPENT, counted, and lets the windows drive the heaters again; at HEATER_WINDOW_EDGE each output follows the stage, the
hold and its window (R182, R183, R184, R185).
The model's choices: that a limit of 0 s is reached by a limit step of its own after the hold has started, so that the
heaters are quiet between the two (assumption log 33), and when the outputs move (assumption log 32). -/
def Obligations.HoldsMoveAndEnd : Prop :=
  (∀ (s t : State) (x : Time), s.heater.hold = .holding x →
    (10000000 * s.loader.profile.qMax : Nat) ≤ s.clock.time.diff x →
    t = { s with heater := { s.heater with
      hold := .spent
      counters := { s.heater.counters with holdsLimited := min (s.heater.counters.holdsLimited + 1) 65535 }
      out0 := t.heater.out0
      out1 := t.heater.out1 } } →
    (t.heater.out0 = true ↔ t.drives (625000 * s.loader.station.val) s.heater.steps0) →
    (t.heater.out1 = true ↔ t.drives ((625000 * s.loader.station.val + 5000000) % 10000000) s.heater.steps1) →
    (s.isSettled = true → exec .holdLimit s = .next t) ∧
    (s.nextLimit = some .hold → t.isSettled = true → exec .holdLimit s = .next t)) ∧
  (∀ (s : State),
    (s.noticeTriggered s.heater.triggered = s ∧ s.noticeEvent s.heater.eventOpen = s) ∧
    (s.heater.triggered = false →
      (s.noticeTriggered true).heater.triggered = true ∧
      (s.noticeTriggered true).heater.eventOpen = s.heater.eventOpen ∧
      (s.heater.hold = .idle → (s.noticeTriggered true).heater.hold = .holding s.clock.time ∧
        (s.noticeTriggered true).heater.counters.holdsStarted = min (s.heater.counters.holdsStarted + 1) 65535 ∧
        (s.noticeTriggered true).heater.out0 = false ∧ (s.noticeTriggered true).heater.out1 = false) ∧
      (s.heater.hold ≠ .idle → (s.noticeTriggered true).heater.hold = s.heater.hold)) ∧
    (s.heater.eventOpen = false →
      (s.noticeEvent true).heater.eventOpen = true ∧
      (s.noticeEvent true).heater.triggered = s.heater.triggered ∧
      (s.heater.hold = .idle → (s.noticeEvent true).heater.hold = .holding s.clock.time ∧
        (s.noticeEvent true).heater.counters.holdsStarted = min (s.heater.counters.holdsStarted + 1) 65535) ∧
      (s.heater.hold ≠ .idle → (s.noticeEvent true).heater.hold = s.heater.hold)) ∧
    (s.heater.triggered = true → (s.noticeTriggered false).heater.triggered = false ∧
      (s.noticeTriggered false).heater.hold = (if s.heater.eventOpen then s.heater.hold else .idle)) ∧
    (s.heater.eventOpen = true → (s.noticeEvent false).heater.eventOpen = false ∧
      (s.noticeEvent false).heater.hold = (if s.heater.triggered then s.heater.hold else .idle))) ∧
  (∀ (s : State), s.isSettled = true → s.loader.phase = .running → ∃ t, exec .heaterWindowEdge s = .next t ∧
    (t.heater.out0 = true ↔ s.drives (625000 * s.loader.station.val) s.heater.steps0) ∧
    (t.heater.out1 = true ↔ s.drives ((625000 * s.loader.station.val + 5000000) % 10000000) s.heater.steps1) ∧
    t = { s with heater := { s.heater with out0 := t.heater.out0, out1 := t.heater.out1 } })

/-! ### Whole-machine rules -/

/-- Every step keeps the clock sound: the subsecond inside a second, F within 3200 and P within 12 (R1, R3). -/
def Obligations.ClockStaysSound : Prop :=
  ∀ s t : State, s.clock.sound → step s = .next t → t.clock.sound

/-- Every step keeps the stores within their capacities, the elastic store within the depth that the profile gives; every
step keeps at most one event record open, the newest; and every step keeps LOADOFF asserted exactly while a reset is held,
loading is in progress or the stage is SHED, with the detector HALTED and no port frame open while it is asserted, the
counts of readings 0 until loading ends, the recovery count 0 outside SHED and the low-voltage count 0 in it
(R23, R45, R76, R81, R82, R101, R129, R165, R166, R167, R173, R203). -/
def Obligations.StoresStayBounded : Prop :=
  (∀ s t : State, s.bounded → step s = .next t → t.bounded) ∧
  (∀ s t : State, s.oneOpen → step s = .next t → t.oneOpen) ∧
  (∀ s t : State, s.disconnects → step s = .next t → t.disconnects)

/-- Every step keeps CHGEN ruled by its conditions: outside a reading still in progress it is asserted exactly while the
battery temperature lies within charge_min..charge_max, with no sensor fault and the stage not SHED; it is deasserted
until loading has ended and until a reading has come. It keeps its level between readings: of the commands only a reading,
a reset and the end of loading change anything of the battery monitor, and no cycle of RUNNING does. The defaults of
charge_min and charge_max are 0 and 450 (R168). -/
def Obligations.ChargeFollowsItsConditions : Prop :=
  (∀ s t : State, s.chargeRuled → step s = .next t → t.chargeRuled) ∧
  (∀ (i : Instr) (s t : State), s.isSettled = true → exec i s = .next t → i ≠ .powerOnReset → i ≠ .pinReset →
    (∀ r, i ≠ .secondBoundaryEvent r) → (∀ x, i ≠ .profileAttemptEnd x) → t.battery = s.battery) ∧
  (∀ s t : State, s.loader.phase = .running → s.pending = [] → s.dueCommand = none → step s = .next t →
    t.battery = s.battery) ∧
  Profile.builtIn.chargeMin = 0 ∧ Profile.builtIn.chargeMax = 450

/-- No command but a reference evaluation, a peer evaluation and a power-on reset changes the trim F: every other command,
with the limit steps it brings, in every state in which no reference evaluation is due, and each other limit step of its
own in every state (R3, R25). -/
def Obligations.TrimChangesOnlyByEvaluation : Prop :=
  (∀ (i : Instr) (s t : State), i ≠ .powerOnReset → i ≠ .peerEvaluation →
    (∀ e0 n, s.clock.interval = .reference e0 n → n < 16 ∨ s.clock.taken = none) →
    exec i s = .next t → t.clock.F = s.clock.F) ∧
  (∀ (i : Instr) (s t : State),
    (i ∈ [Instr.outlierLimit, .referenceReturn, .consecutiveMissingLimit, .holdoverAgeLimit, .stationConflictExpiry,
      .disturbedTimerExpiry, .stall, .warmupEnd, .forcedEnd, .holdoffEnd, .fullResync, .shedEntry, .shedExit] ∨
      ∃ n, i = .timePartAgeOut n ∨ i = .heatPartAgeOut n ∨ i = .triggerPartAgeOut n) →
    exec i s = .next t → t.clock.F = s.clock.F)

/-- The machine as reset leaves it has a sound clock, stores within their capacities, no open event record, so that at
most its newest record is open, LOADOFF asserted with the detector HALTED, and CHGEN deasserted with no reading. -/
def Obligations.InvariantsHoldAtReset : Prop :=
  State.reset.clock.sound ∧ State.reset.bounded ∧ State.reset.oneOpen ∧ State.reset.openEvent = none ∧
  State.reset.disconnects ∧ State.reset.chargeRuled
end

