-- ==== Sys2Proof/Laws/State.lean ====
section
/-! SUPPORT. One lemma for each field that a named update of State leaves alone, and one for the field it writes where
that is a plain function of it. -/

namespace Sys2Proof.Machine

variable (s : State)

/-! ### Short names -/

@[simp] theorem State.now_eq : s.now = s.clock.time := rfl

@[simp] theorem State.profile_eq : s.profile = s.loader.profile := rfl

@[simp] theorem State.own_eq : s.own = s.loader.station := rfl

/-! ### mapClock -/

@[simp] theorem State.mapClock_frame (f : Clock → Clock) :
    (s.mapClock f).pins = s.pins ∧ (s.mapClock f).loader = s.loader ∧ (s.mapClock f).trunk = s.trunk ∧
    (s.mapClock f).peers = s.peers ∧ (s.mapClock f).sched = s.sched ∧ (s.mapClock f).intake = s.intake ∧
    (s.mapClock f).detector = s.detector ∧ (s.mapClock f).co = s.co ∧ (s.mapClock f).alerts = s.alerts ∧
    (s.mapClock f).battery = s.battery ∧ (s.mapClock f).heater = s.heater ∧ (s.mapClock f).service = s.service ∧
    (s.mapClock f).free = s.free ∧ (s.mapClock f).pending = s.pending := by
  refine ⟨rfl, rfl, rfl, rfl, rfl, rfl, rfl, rfl, rfl, rfl, rfl, rfl, rfl, rfl⟩

@[simp] theorem State.mapClock_clock (f : Clock → Clock) : (s.mapClock f).clock = f s.clock := rfl

/-! ### mapTrunk -/

@[simp] theorem State.mapTrunk_frame (f : Trunk → Trunk) :
    (s.mapTrunk f).pins = s.pins ∧ (s.mapTrunk f).loader = s.loader ∧ (s.mapTrunk f).clock = s.clock ∧
    (s.mapTrunk f).peers = s.peers ∧ (s.mapTrunk f).sched = s.sched ∧ (s.mapTrunk f).intake = s.intake ∧
    (s.mapTrunk f).detector = s.detector ∧ (s.mapTrunk f).co = s.co ∧ (s.mapTrunk f).alerts = s.alerts ∧
    (s.mapTrunk f).battery = s.battery ∧ (s.mapTrunk f).heater = s.heater ∧ (s.mapTrunk f).service = s.service ∧
    (s.mapTrunk f).free = s.free ∧ (s.mapTrunk f).pending = s.pending := by
  refine ⟨rfl, rfl, rfl, rfl, rfl, rfl, rfl, rfl, rfl, rfl, rfl, rfl, rfl, rfl⟩

@[simp] theorem State.mapTrunk_trunk (f : Trunk → Trunk) : (s.mapTrunk f).trunk = f s.trunk := rfl

/-! ### mapLink -/

@[simp] theorem State.mapLink_frame (f : LinkCounters → LinkCounters) :
    (s.mapLink f).pins = s.pins ∧ (s.mapLink f).loader = s.loader ∧ (s.mapLink f).clock = s.clock ∧
    (s.mapLink f).peers = s.peers ∧ (s.mapLink f).sched = s.sched ∧ (s.mapLink f).intake = s.intake ∧
    (s.mapLink f).detector = s.detector ∧ (s.mapLink f).co = s.co ∧ (s.mapLink f).alerts = s.alerts ∧
    (s.mapLink f).battery = s.battery ∧ (s.mapLink f).heater = s.heater ∧ (s.mapLink f).service = s.service ∧
    (s.mapLink f).free = s.free ∧ (s.mapLink f).pending = s.pending := by
  refine ⟨rfl, rfl, rfl, rfl, rfl, rfl, rfl, rfl, rfl, rfl, rfl, rfl, rfl, rfl⟩


/-! ### mapPeers -/

@[simp] theorem State.mapPeers_frame (f : Peers → Peers) :
    (s.mapPeers f).pins = s.pins ∧ (s.mapPeers f).loader = s.loader ∧ (s.mapPeers f).clock = s.clock ∧
    (s.mapPeers f).trunk = s.trunk ∧ (s.mapPeers f).sched = s.sched ∧ (s.mapPeers f).intake = s.intake ∧
    (s.mapPeers f).detector = s.detector ∧ (s.mapPeers f).co = s.co ∧ (s.mapPeers f).alerts = s.alerts ∧
    (s.mapPeers f).battery = s.battery ∧ (s.mapPeers f).heater = s.heater ∧ (s.mapPeers f).service = s.service ∧
    (s.mapPeers f).free = s.free ∧ (s.mapPeers f).pending = s.pending := by
  refine ⟨rfl, rfl, rfl, rfl, rfl, rfl, rfl, rfl, rfl, rfl, rfl, rfl, rfl, rfl⟩

@[simp] theorem State.mapPeers_peers (f : Peers → Peers) : (s.mapPeers f).peers = f s.peers := rfl

/-! ### mapIntake -/

@[simp] theorem State.mapIntake_frame (f : Intake → Intake) :
    (s.mapIntake f).pins = s.pins ∧ (s.mapIntake f).loader = s.loader ∧ (s.mapIntake f).clock = s.clock ∧
    (s.mapIntake f).trunk = s.trunk ∧ (s.mapIntake f).peers = s.peers ∧ (s.mapIntake f).sched = s.sched ∧
    (s.mapIntake f).detector = s.detector ∧ (s.mapIntake f).co = s.co ∧ (s.mapIntake f).alerts = s.alerts ∧
    (s.mapIntake f).battery = s.battery ∧ (s.mapIntake f).heater = s.heater ∧
    (s.mapIntake f).service = s.service ∧ (s.mapIntake f).free = s.free ∧ (s.mapIntake f).pending = s.pending := by
  refine ⟨rfl, rfl, rfl, rfl, rfl, rfl, rfl, rfl, rfl, rfl, rfl, rfl, rfl, rfl⟩

@[simp] theorem State.mapIntake_intake (f : Intake → Intake) : (s.mapIntake f).intake = f s.intake := rfl

/-! ### mapDetector -/

@[simp] theorem State.mapDetector_frame (f : Detector → Detector) :
    (s.mapDetector f).pins = s.pins ∧ (s.mapDetector f).loader = s.loader ∧ (s.mapDetector f).clock = s.clock ∧
    (s.mapDetector f).trunk = s.trunk ∧ (s.mapDetector f).peers = s.peers ∧ (s.mapDetector f).sched = s.sched ∧
    (s.mapDetector f).intake = s.intake ∧ (s.mapDetector f).co = s.co ∧ (s.mapDetector f).alerts = s.alerts ∧
    (s.mapDetector f).battery = s.battery ∧ (s.mapDetector f).heater = s.heater ∧
    (s.mapDetector f).service = s.service ∧ (s.mapDetector f).free = s.free ∧
    (s.mapDetector f).pending = s.pending := by
  refine ⟨rfl, rfl, rfl, rfl, rfl, rfl, rfl, rfl, rfl, rfl, rfl, rfl, rfl, rfl⟩

@[simp] theorem State.mapDetector_detector (f : Detector → Detector) : (s.mapDetector f).detector = f s.detector := rfl

/-! ### mapBattery -/

@[simp] theorem State.mapBattery_frame (f : Battery → Battery) :
    (s.mapBattery f).pins = s.pins ∧ (s.mapBattery f).loader = s.loader ∧ (s.mapBattery f).clock = s.clock ∧
    (s.mapBattery f).trunk = s.trunk ∧ (s.mapBattery f).peers = s.peers ∧ (s.mapBattery f).sched = s.sched ∧
    (s.mapBattery f).intake = s.intake ∧ (s.mapBattery f).detector = s.detector ∧ (s.mapBattery f).co = s.co ∧
    (s.mapBattery f).alerts = s.alerts ∧ (s.mapBattery f).heater = s.heater ∧
    (s.mapBattery f).service = s.service ∧ (s.mapBattery f).free = s.free ∧ (s.mapBattery f).pending = s.pending := by
  refine ⟨rfl, rfl, rfl, rfl, rfl, rfl, rfl, rfl, rfl, rfl, rfl, rfl, rfl, rfl⟩

@[simp] theorem State.mapBattery_battery (f : Battery → Battery) : (s.mapBattery f).battery = f s.battery := rfl

/-! ### mapLoader -/

@[simp] theorem State.mapLoader_frame (f : Loader → Loader) :
    (s.mapLoader f).pins = s.pins ∧ (s.mapLoader f).clock = s.clock ∧ (s.mapLoader f).trunk = s.trunk ∧
    (s.mapLoader f).peers = s.peers ∧ (s.mapLoader f).sched = s.sched ∧ (s.mapLoader f).intake = s.intake ∧
    (s.mapLoader f).detector = s.detector ∧ (s.mapLoader f).co = s.co ∧ (s.mapLoader f).alerts = s.alerts ∧
    (s.mapLoader f).battery = s.battery ∧ (s.mapLoader f).heater = s.heater ∧
    (s.mapLoader f).service = s.service ∧ (s.mapLoader f).free = s.free ∧ (s.mapLoader f).pending = s.pending := by
  refine ⟨rfl, rfl, rfl, rfl, rfl, rfl, rfl, rfl, rfl, rfl, rfl, rfl, rfl, rfl⟩

@[simp] theorem State.mapLoader_loader (f : Loader → Loader) : (s.mapLoader f).loader = f s.loader := rfl

/-! ### mapCoCounters -/

@[simp] theorem State.mapCoCounters_frame (f : CoCounters → CoCounters) :
    (s.mapCoCounters f).pins = s.pins ∧ (s.mapCoCounters f).loader = s.loader ∧
    (s.mapCoCounters f).clock = s.clock ∧ (s.mapCoCounters f).trunk = s.trunk ∧
    (s.mapCoCounters f).peers = s.peers ∧ (s.mapCoCounters f).sched = s.sched ∧
    (s.mapCoCounters f).intake = s.intake ∧ (s.mapCoCounters f).detector = s.detector ∧
    (s.mapCoCounters f).alerts = s.alerts ∧ (s.mapCoCounters f).battery = s.battery ∧
    (s.mapCoCounters f).heater = s.heater ∧ (s.mapCoCounters f).service = s.service ∧
    (s.mapCoCounters f).free = s.free ∧ (s.mapCoCounters f).pending = s.pending := by
  refine ⟨rfl, rfl, rfl, rfl, rfl, rfl, rfl, rfl, rfl, rfl, rfl, rfl, rfl, rfl⟩


/-! ### setSlot -/

@[simp] theorem State.setSlot_frame (k : TxKind) (v : Slot) :
    (s.setSlot k v).pins = s.pins ∧ (s.setSlot k v).loader = s.loader ∧ (s.setSlot k v).clock = s.clock ∧
    (s.setSlot k v).trunk = s.trunk ∧ (s.setSlot k v).peers = s.peers ∧ (s.setSlot k v).intake = s.intake ∧
    (s.setSlot k v).detector = s.detector ∧ (s.setSlot k v).co = s.co ∧ (s.setSlot k v).alerts = s.alerts ∧
    (s.setSlot k v).battery = s.battery ∧ (s.setSlot k v).heater = s.heater ∧
    (s.setSlot k v).service = s.service ∧ (s.setSlot k v).free = s.free ∧ (s.setSlot k v).pending = s.pending := by
  refine ⟨rfl, rfl, rfl, rfl, rfl, rfl, rfl, rfl, rfl, rfl, rfl, rfl, rfl, rfl⟩


/-! ### updateEvent -/

@[simp] theorem State.updateEvent_frame (n : BitVec 8) (f : Event → Event) :
    (s.updateEvent n f).pins = s.pins ∧ (s.updateEvent n f).loader = s.loader ∧
    (s.updateEvent n f).clock = s.clock ∧ (s.updateEvent n f).trunk = s.trunk ∧
    (s.updateEvent n f).peers = s.peers ∧ (s.updateEvent n f).sched = s.sched ∧
    (s.updateEvent n f).intake = s.intake ∧ (s.updateEvent n f).detector = s.detector ∧
    (s.updateEvent n f).alerts = s.alerts ∧ (s.updateEvent n f).battery = s.battery ∧
    (s.updateEvent n f).heater = s.heater ∧ (s.updateEvent n f).service = s.service ∧
    (s.updateEvent n f).free = s.free ∧ (s.updateEvent n f).pending = s.pending := by
  refine ⟨rfl, rfl, rfl, rfl, rfl, rfl, rfl, rfl, rfl, rfl, rfl, rfl, rfl, rfl⟩


/-! ### askCo -/

@[simp] theorem State.askCo_frame (r : CoRequest) :
    (s.askCo r).pins = s.pins ∧ (s.askCo r).loader = s.loader ∧ (s.askCo r).clock = s.clock ∧
    (s.askCo r).trunk = s.trunk ∧ (s.askCo r).peers = s.peers ∧ (s.askCo r).sched = s.sched ∧
    (s.askCo r).intake = s.intake ∧ (s.askCo r).detector = s.detector ∧ (s.askCo r).alerts = s.alerts ∧
    (s.askCo r).battery = s.battery ∧ (s.askCo r).heater = s.heater ∧ (s.askCo r).service = s.service ∧
    (s.askCo r).free = s.free ∧ (s.askCo r).pending = s.pending := by
  refine ⟨rfl, rfl, rfl, rfl, rfl, rfl, rfl, rfl, rfl, rfl, rfl, rfl, rfl, rfl⟩


/-! ### popRequest -/

@[simp] theorem State.popRequest_frame :
    (s.popRequest).pins = s.pins ∧ (s.popRequest).loader = s.loader ∧ (s.popRequest).clock = s.clock ∧
    (s.popRequest).trunk = s.trunk ∧ (s.popRequest).peers = s.peers ∧ (s.popRequest).sched = s.sched ∧
    (s.popRequest).intake = s.intake ∧ (s.popRequest).detector = s.detector ∧ (s.popRequest).alerts = s.alerts ∧
    (s.popRequest).battery = s.battery ∧ (s.popRequest).heater = s.heater ∧ (s.popRequest).service = s.service ∧
    (s.popRequest).free = s.free ∧ (s.popRequest).pending = s.pending := by
  refine ⟨rfl, rfl, rfl, rfl, rfl, rfl, rfl, rfl, rfl, rfl, rfl, rfl, rfl, rfl⟩


/-! ### release -/

@[simp] theorem State.release_frame :
    (s.release).pins = s.pins ∧ (s.release).loader = s.loader ∧ (s.release).clock = s.clock ∧
    (s.release).trunk = s.trunk ∧ (s.release).sched = s.sched ∧ (s.release).intake = s.intake ∧
    (s.release).detector = s.detector ∧ (s.release).co = s.co ∧ (s.release).alerts = s.alerts ∧
    (s.release).battery = s.battery ∧ (s.release).heater = s.heater ∧ (s.release).service = s.service ∧
    (s.release).free = s.free ∧ (s.release).pending = s.pending := by
  refine ⟨rfl, rfl, rfl, rfl, rfl, rfl, rfl, rfl, rfl, rfl, rfl, rfl, rfl, rfl⟩


/-! ### hold -/

@[simp] theorem State.hold_frame (e : InEntry) :
    (s.hold e).pins = s.pins ∧ (s.hold e).loader = s.loader ∧ (s.hold e).clock = s.clock ∧
    (s.hold e).trunk = s.trunk ∧ (s.hold e).sched = s.sched ∧ (s.hold e).intake = s.intake ∧
    (s.hold e).detector = s.detector ∧ (s.hold e).co = s.co ∧ (s.hold e).alerts = s.alerts ∧
    (s.hold e).battery = s.battery ∧ (s.hold e).heater = s.heater ∧ (s.hold e).service = s.service ∧
    (s.hold e).free = s.free ∧ (s.hold e).pending = s.pending := by
  refine ⟨rfl, rfl, rfl, rfl, rfl, rfl, rfl, rfl, rfl, rfl, rfl, rfl, rfl, rfl⟩


/-! ### raiseConflict -/

@[simp] theorem State.raiseConflict_frame :
    (s.raiseConflict).pins = s.pins ∧ (s.raiseConflict).loader = s.loader ∧ (s.raiseConflict).clock = s.clock ∧
    (s.raiseConflict).trunk = s.trunk ∧ (s.raiseConflict).sched = s.sched ∧
    (s.raiseConflict).intake = s.intake ∧ (s.raiseConflict).detector = s.detector ∧
    (s.raiseConflict).co = s.co ∧ (s.raiseConflict).alerts = s.alerts ∧ (s.raiseConflict).battery = s.battery ∧
    (s.raiseConflict).heater = s.heater ∧ (s.raiseConflict).service = s.service ∧
    (s.raiseConflict).free = s.free ∧ (s.raiseConflict).pending = s.pending := by
  refine ⟨rfl, rfl, rfl, rfl, rfl, rfl, rfl, rfl, rfl, rfl, rfl, rfl, rfl, rfl⟩


/-! ### clearDeference -/

@[simp] theorem State.clearDeference_frame :
    (s.clearDeference).pins = s.pins ∧ (s.clearDeference).loader = s.loader ∧
    (s.clearDeference).clock = s.clock ∧ (s.clearDeference).trunk = s.trunk ∧
    (s.clearDeference).peers = s.peers ∧ (s.clearDeference).sched = s.sched ∧
    (s.clearDeference).intake = s.intake ∧ (s.clearDeference).detector = s.detector ∧
    (s.clearDeference).co = s.co ∧ (s.clearDeference).battery = s.battery ∧
    (s.clearDeference).heater = s.heater ∧ (s.clearDeference).service = s.service ∧
    (s.clearDeference).free = s.free ∧ (s.clearDeference).pending = s.pending := by
  refine ⟨rfl, rfl, rfl, rfl, rfl, rfl, rfl, rfl, rfl, rfl, rfl, rfl, rfl, rfl⟩


/-! ### startAnnunciator -/

@[simp] theorem State.startAnnunciator_frame :
    (s.startAnnunciator).pins = s.pins ∧ (s.startAnnunciator).loader = s.loader ∧
    (s.startAnnunciator).clock = s.clock ∧ (s.startAnnunciator).trunk = s.trunk ∧
    (s.startAnnunciator).peers = s.peers ∧ (s.startAnnunciator).sched = s.sched ∧
    (s.startAnnunciator).intake = s.intake ∧ (s.startAnnunciator).detector = s.detector ∧
    (s.startAnnunciator).co = s.co ∧ (s.startAnnunciator).battery = s.battery ∧
    (s.startAnnunciator).heater = s.heater ∧ (s.startAnnunciator).service = s.service ∧
    (s.startAnnunciator).free = s.free ∧ (s.startAnnunciator).pending = s.pending := by
  refine ⟨rfl, rfl, rfl, rfl, rfl, rfl, rfl, rfl, rfl, rfl, rfl, rfl, rfl, rfl⟩


/-! ### stopAnnunciator -/

@[simp] theorem State.stopAnnunciator_frame :
    (s.stopAnnunciator).pins = s.pins ∧ (s.stopAnnunciator).loader = s.loader ∧
    (s.stopAnnunciator).clock = s.clock ∧ (s.stopAnnunciator).trunk = s.trunk ∧
    (s.stopAnnunciator).peers = s.peers ∧ (s.stopAnnunciator).sched = s.sched ∧
    (s.stopAnnunciator).intake = s.intake ∧ (s.stopAnnunciator).detector = s.detector ∧
    (s.stopAnnunciator).co = s.co ∧ (s.stopAnnunciator).battery = s.battery ∧
    (s.stopAnnunciator).heater = s.heater ∧ (s.stopAnnunciator).service = s.service ∧
    (s.stopAnnunciator).free = s.free ∧ (s.stopAnnunciator).pending = s.pending := by
  refine ⟨rfl, rfl, rfl, rfl, rfl, rfl, rfl, rfl, rfl, rfl, rfl, rfl, rfl, rfl⟩


/-! ### followHeaters -/

@[simp] theorem State.followHeaters_frame :
    (s.followHeaters).pins = s.pins ∧ (s.followHeaters).loader = s.loader ∧ (s.followHeaters).clock = s.clock ∧
    (s.followHeaters).trunk = s.trunk ∧ (s.followHeaters).peers = s.peers ∧ (s.followHeaters).sched = s.sched ∧
    (s.followHeaters).intake = s.intake ∧ (s.followHeaters).detector = s.detector ∧
    (s.followHeaters).co = s.co ∧ (s.followHeaters).alerts = s.alerts ∧ (s.followHeaters).battery = s.battery ∧
    (s.followHeaters).service = s.service ∧ (s.followHeaters).free = s.free ∧
    (s.followHeaters).pending = s.pending := by
  refine ⟨rfl, rfl, rfl, rfl, rfl, rfl, rfl, rfl, rfl, rfl, rfl, rfl, rfl, rfl⟩


/-! ### countOutcome -/

@[simp] theorem State.countOutcome_frame (k : AlertKind) (o : AlertOutcome) :
    (s.countOutcome k o).pins = s.pins ∧ (s.countOutcome k o).loader = s.loader ∧
    (s.countOutcome k o).clock = s.clock ∧ (s.countOutcome k o).trunk = s.trunk ∧
    (s.countOutcome k o).peers = s.peers ∧ (s.countOutcome k o).sched = s.sched ∧
    (s.countOutcome k o).intake = s.intake ∧ (s.countOutcome k o).detector = s.detector ∧
    (s.countOutcome k o).co = s.co ∧ (s.countOutcome k o).battery = s.battery ∧
    (s.countOutcome k o).heater = s.heater ∧ (s.countOutcome k o).service = s.service ∧
    (s.countOutcome k o).free = s.free ∧ (s.countOutcome k o).pending = s.pending := by
  refine ⟨rfl, rfl, rfl, rfl, rfl, rfl, rfl, rfl, rfl, rfl, rfl, rfl, rfl, rfl⟩


/-! ### setOutcome -/

@[simp] theorem State.setOutcome_frame (k : AlertKind) (n : BitVec 8) (o : AlertOutcome) :
    (s.setOutcome k n o).pins = s.pins ∧ (s.setOutcome k n o).loader = s.loader ∧
    (s.setOutcome k n o).clock = s.clock ∧ (s.setOutcome k n o).trunk = s.trunk ∧
    (s.setOutcome k n o).peers = s.peers ∧ (s.setOutcome k n o).sched = s.sched ∧
    (s.setOutcome k n o).intake = s.intake ∧ (s.setOutcome k n o).detector = s.detector ∧
    (s.setOutcome k n o).alerts = s.alerts ∧ (s.setOutcome k n o).battery = s.battery ∧
    (s.setOutcome k n o).heater = s.heater ∧ (s.setOutcome k n o).service = s.service ∧
    (s.setOutcome k n o).free = s.free ∧ (s.setOutcome k n o).pending = s.pending := by
  refine ⟨rfl, rfl, rfl, rfl, rfl, rfl, rfl, rfl, rfl, rfl, rfl, rfl, rfl, rfl⟩


/-! ### untrack -/

@[simp] theorem State.untrack_frame (k : AlertKind) (n : BitVec 8) :
    (s.untrack k n).pins = s.pins ∧ (s.untrack k n).loader = s.loader ∧ (s.untrack k n).clock = s.clock ∧
    (s.untrack k n).trunk = s.trunk ∧ (s.untrack k n).peers = s.peers ∧ (s.untrack k n).sched = s.sched ∧
    (s.untrack k n).intake = s.intake ∧ (s.untrack k n).detector = s.detector ∧ (s.untrack k n).co = s.co ∧
    (s.untrack k n).battery = s.battery ∧ (s.untrack k n).heater = s.heater ∧
    (s.untrack k n).service = s.service ∧ (s.untrack k n).free = s.free ∧ (s.untrack k n).pending = s.pending := by
  refine ⟨rfl, rfl, rfl, rfl, rfl, rfl, rfl, rfl, rfl, rfl, rfl, rfl, rfl, rfl⟩


/-! ### setCause -/

@[simp] theorem State.setCause_frame (k : AlertKind) (n : BitVec 8) (c : Cause) :
    (s.setCause k n c).pins = s.pins ∧ (s.setCause k n c).loader = s.loader ∧
    (s.setCause k n c).clock = s.clock ∧ (s.setCause k n c).trunk = s.trunk ∧
    (s.setCause k n c).peers = s.peers ∧ (s.setCause k n c).sched = s.sched ∧
    (s.setCause k n c).intake = s.intake ∧ (s.setCause k n c).detector = s.detector ∧
    (s.setCause k n c).co = s.co ∧ (s.setCause k n c).battery = s.battery ∧
    (s.setCause k n c).heater = s.heater ∧ (s.setCause k n c).service = s.service ∧
    (s.setCause k n c).free = s.free ∧ (s.setCause k n c).pending = s.pending := by
  refine ⟨rfl, rfl, rfl, rfl, rfl, rfl, rfl, rfl, rfl, rfl, rfl, rfl, rfl, rfl⟩


/-! ### closePort -/

@[simp] theorem State.closePort_frame :
    (s.closePort).pins = s.pins ∧ (s.closePort).loader = s.loader ∧ (s.closePort).clock = s.clock ∧
    (s.closePort).trunk = s.trunk ∧ (s.closePort).peers = s.peers ∧ (s.closePort).sched = s.sched ∧
    (s.closePort).detector = s.detector ∧ (s.closePort).co = s.co ∧ (s.closePort).alerts = s.alerts ∧
    (s.closePort).battery = s.battery ∧ (s.closePort).heater = s.heater ∧ (s.closePort).service = s.service ∧
    (s.closePort).free = s.free ∧ (s.closePort).pending = s.pending := by
  refine ⟨rfl, rfl, rfl, rfl, rfl, rfl, rfl, rfl, rfl, rfl, rfl, rfl, rfl, rfl⟩


/-! ### setCharge -/

@[simp] theorem State.setCharge_frame :
    (s.setCharge).pins = s.pins ∧ (s.setCharge).loader = s.loader ∧ (s.setCharge).clock = s.clock ∧
    (s.setCharge).trunk = s.trunk ∧ (s.setCharge).peers = s.peers ∧ (s.setCharge).sched = s.sched ∧
    (s.setCharge).intake = s.intake ∧ (s.setCharge).detector = s.detector ∧ (s.setCharge).co = s.co ∧
    (s.setCharge).alerts = s.alerts ∧ (s.setCharge).heater = s.heater ∧ (s.setCharge).service = s.service ∧
    (s.setCharge).free = s.free ∧ (s.setCharge).pending = s.pending := by
  refine ⟨rfl, rfl, rfl, rfl, rfl, rfl, rfl, rfl, rfl, rfl, rfl, rfl, rfl, rfl⟩


/-! ### What the small updates write -/

@[simp] theorem State.setSlot_slots (k : TxKind) (v : Slot) :
    (s.setSlot k v).sched.slots = s.sched.slots.set k v := rfl

@[simp] theorem State.askCo_waiting (r : CoRequest) : (s.askCo r).co.waiting = s.co.waiting ++ [r] := rfl

@[simp] theorem State.askCo_events (r : CoRequest) : (s.askCo r).co.events = s.co.events := rfl

@[simp] theorem State.popRequest_events : s.popRequest.co.events = s.co.events := rfl

@[simp] theorem State.mapCoCounters_events (f : CoCounters → CoCounters) :
    (s.mapCoCounters f).co.events = s.co.events := rfl

@[simp] theorem State.release_hand : s.release.peers.hand = none := rfl

@[simp] theorem State.release_rows : s.release.peers.rows = s.peers.rows := rfl

/-- A slot reads back what was written to it. -/
@[simp] theorem Slots.get_set_self (x : Slots) (k : TxKind) (v : Slot) : (x.set k v).get k = v := by cases k <;> rfl

/-- Writing one slot leaves every other slot alone. -/
theorem Slots.get_set_other (x : Slots) (j k : TxKind) (v : Slot) (h : j ≠ k) : (x.set k v).get j = x.get j := by
  cases j <;> cases k <;> first | rfl | exact absurd rfl h

/-- A row reads back what was written to it. -/
@[simp] theorem Peers.row_setRow_self (p : Peers) (n : Station) (r : Row) : (p.setRow n r).row n = r := by
  simp [Peers.row, Peers.setRow]

/-- Writing back the row that stands changes nothing. -/
@[simp] theorem Peers.setRow_row (p : Peers) (n : Station) : p.setRow n (p.row n) = p := by
  simp [Peers.row, Peers.setRow]

/-- Writing one row leaves every other row alone. -/
theorem Peers.row_setRow_other (p : Peers) (m n : Station) (r : Row) (h : m ≠ n) : (p.setRow n r).row m = p.row m := by
  have hne : n.val ≠ m.val := fun e => h (Fin.ext e.symm)
  simp [Peers.row, Peers.setRow, hne]

/-! ### The two ways a command is carried out -/

/-- With no limit step due, settling changes nothing. -/
theorem State.settle_of_isSettled (h : s.isSettled = true) : s.settle = s := by
  have hn : s.nextLimit = none := by simpa [State.isSettled] using h
  simp [State.settle, State.settleFor, hn]

/-- A command whose conditions hold in a settled state has its effect. -/
theorem carryOut_of (cond : State → Bool) (effect : State → State) (h : s.isSettled = true) (hc : cond s = true) :
    carryOut cond effect s = .next (effect s) := by
  simp [carryOut, State.settle_of_isSettled s h, hc]

/-- A command whose conditions do not hold in a settled state changes nothing. -/
theorem carryOut_of_not (cond : State → Bool) (effect : State → State) (h : s.isSettled = true) (hc : cond s = false) :
    carryOut cond effect s = .next s := by
  simp [carryOut, State.settle_of_isSettled s h, hc]

/-- A limit step that is due has its effect. -/
theorem takeLimit_of (x : Limit) (h : x.due s = true) : takeLimit x s = .next (x.effect s) := by
  simp [takeLimit, h]

/-- What carrying out a command can answer: always a next state, the settled one with or without the effect. -/
theorem carryOut_cases (cond : State → Bool) (effect : State → State) (t : State)
    (h : carryOut cond effect s = .next t) :
    (cond s.settle = true ∧ t = effect s.settle) ∨ (cond s.settle = false ∧ t = s.settle) := by
  unfold carryOut at h
  cases hc : cond s.settle
  · right; simp [hc] at h; exact ⟨rfl, h.symm⟩
  · left; simp [hc] at h; exact ⟨rfl, h.symm⟩

/-- What a limit step can answer. -/
theorem takeLimit_cases (x : Limit) (t : State) (h : takeLimit x s = .next t) :
    (x.due s = true ∧ t = x.effect s) ∨ (x.due s = false ∧ t = s) := by
  unfold takeLimit at h
  cases hc : x.due s
  · right; simp [hc] at h; exact ⟨rfl, h.symm⟩
  · left; simp [hc] at h; exact ⟨rfl, h.symm⟩

end Sys2Proof.Machine
end

