-- ==== Sys2Proof/Laws/Frames.lean ====
section
/-! SUPPORT. The frame of every operation of several blocks: the blocks it leaves as they are. -/

namespace Sys2Proof.Machine

variable (s : State)

/-! ### The scheduler's operations and its reports -/

@[simp] theorem State.resolve_frame (k : AlertKind) (n : BitVec 8) (o : AlertOutcome) :
    (s.resolve k n o).pins = s.pins ∧ (s.resolve k n o).loader = s.loader ∧ (s.resolve k n o).clock = s.clock ∧
    (s.resolve k n o).trunk = s.trunk ∧ (s.resolve k n o).peers = s.peers ∧ (s.resolve k n o).sched = s.sched ∧
    (s.resolve k n o).intake = s.intake ∧ (s.resolve k n o).detector = s.detector ∧
    (s.resolve k n o).battery = s.battery ∧ (s.resolve k n o).heater = s.heater ∧
    (s.resolve k n o).service = s.service ∧ (s.resolve k n o).free = s.free ∧ (s.resolve k n o).pending = s.pending := by
  simp only [State.resolve]
  (repeat' split) <;> simp

@[simp] theorem State.reportAlert_frame (k : AlertKind) (n : BitVec 8) (o : SendOutcome) :
    (s.reportAlert k n o).pins = s.pins ∧ (s.reportAlert k n o).loader = s.loader ∧
    (s.reportAlert k n o).clock = s.clock ∧ (s.reportAlert k n o).trunk = s.trunk ∧
    (s.reportAlert k n o).peers = s.peers ∧ (s.reportAlert k n o).sched = s.sched ∧
    (s.reportAlert k n o).intake = s.intake ∧ (s.reportAlert k n o).detector = s.detector ∧
    (s.reportAlert k n o).battery = s.battery ∧ (s.reportAlert k n o).heater = s.heater ∧
    (s.reportAlert k n o).service = s.service ∧ (s.reportAlert k n o).free = s.free ∧
    (s.reportAlert k n o).pending = s.pending := by
  simp only [State.reportAlert]
  (repeat' split) <;> simp

@[simp] theorem State.reportHeat_frame (ref : Ref) (o : SendOutcome) :
    (s.reportHeat ref o).pins = s.pins ∧ (s.reportHeat ref o).loader = s.loader ∧
    (s.reportHeat ref o).clock = s.clock ∧ (s.reportHeat ref o).trunk = s.trunk ∧
    (s.reportHeat ref o).peers = s.peers ∧ (s.reportHeat ref o).sched = s.sched ∧
    (s.reportHeat ref o).intake = s.intake ∧ (s.reportHeat ref o).detector = s.detector ∧
    (s.reportHeat ref o).co = s.co ∧ (s.reportHeat ref o).alerts = s.alerts ∧
    (s.reportHeat ref o).battery = s.battery ∧ (s.reportHeat ref o).service = s.service ∧
    (s.reportHeat ref o).free = s.free ∧ (s.reportHeat ref o).pending = s.pending := by
  cases o <;> cases ref <;> simp [State.reportHeat]

@[simp] theorem State.reportReply_frame (o : SendOutcome) :
    (s.reportReply o).pins = s.pins ∧ (s.reportReply o).loader = s.loader ∧ (s.reportReply o).clock = s.clock ∧
    (s.reportReply o).trunk = s.trunk ∧ (s.reportReply o).peers = s.peers ∧ (s.reportReply o).sched = s.sched ∧
    (s.reportReply o).intake = s.intake ∧ (s.reportReply o).detector = s.detector ∧ (s.reportReply o).co = s.co ∧
    (s.reportReply o).alerts = s.alerts ∧ (s.reportReply o).battery = s.battery ∧
    (s.reportReply o).heater = s.heater ∧ (s.reportReply o).free = s.free ∧ (s.reportReply o).pending = s.pending := by
  cases o <;> simp [State.reportReply]

@[simp] theorem State.reportOnset_frame (o : SendOutcome) :
    (s.reportOnset o).pins = s.pins ∧ (s.reportOnset o).loader = s.loader ∧ (s.reportOnset o).clock = s.clock ∧
    (s.reportOnset o).trunk = s.trunk ∧ (s.reportOnset o).peers = s.peers ∧ (s.reportOnset o).sched = s.sched ∧
    (s.reportOnset o).intake = s.intake ∧ (s.reportOnset o).co = s.co ∧ (s.reportOnset o).alerts = s.alerts ∧
    (s.reportOnset o).battery = s.battery ∧ (s.reportOnset o).heater = s.heater ∧
    (s.reportOnset o).service = s.service ∧ (s.reportOnset o).free = s.free ∧ (s.reportOnset o).pending = s.pending := by
  cases o <;> simp [State.reportOnset]

@[simp] theorem State.reportCoda_frame (o : SendOutcome) :
    (s.reportCoda o).pins = s.pins ∧ (s.reportCoda o).loader = s.loader ∧ (s.reportCoda o).clock = s.clock ∧
    (s.reportCoda o).trunk = s.trunk ∧ (s.reportCoda o).peers = s.peers ∧ (s.reportCoda o).sched = s.sched ∧
    (s.reportCoda o).intake = s.intake ∧ (s.reportCoda o).co = s.co ∧ (s.reportCoda o).alerts = s.alerts ∧
    (s.reportCoda o).battery = s.battery ∧ (s.reportCoda o).heater = s.heater ∧
    (s.reportCoda o).service = s.service ∧ (s.reportCoda o).free = s.free ∧ (s.reportCoda o).pending = s.pending := by
  cases o <;> simp [State.reportCoda]

@[simp] theorem State.report_frame (k : TxKind) (ref : Ref) (o : SendOutcome) :
    (s.report k ref o).pins = s.pins ∧ (s.report k ref o).loader = s.loader ∧ (s.report k ref o).clock = s.clock ∧
    (s.report k ref o).trunk = s.trunk ∧ (s.report k ref o).peers = s.peers ∧ (s.report k ref o).sched = s.sched ∧
    (s.report k ref o).intake = s.intake ∧ (s.report k ref o).battery = s.battery ∧
    (s.report k ref o).free = s.free ∧ (s.report k ref o).pending = s.pending := by
  cases k <;> cases ref <;> simp [State.report]

@[simp] theorem State.leave_frame (k : TxKind) (r : Request) (o : SendOutcome) :
    (s.leave k r o).pins = s.pins ∧ (s.leave k r o).loader = s.loader ∧ (s.leave k r o).clock = s.clock ∧
    (s.leave k r o).trunk = s.trunk ∧ (s.leave k r o).peers = s.peers ∧ (s.leave k r o).intake = s.intake ∧
    (s.leave k r o).battery = s.battery ∧ (s.leave k r o).free = s.free ∧ (s.leave k r o).pending = s.pending := by
  simp only [State.leave]
  (repeat' split) <;> simp

@[simp] theorem State.request_frame (k : TxKind) (body : List Byte) (ref : Ref) (time : Time) (deadline : Option Time) :
    (s.request k body ref time deadline).pins = s.pins ∧ (s.request k body ref time deadline).loader = s.loader ∧
    (s.request k body ref time deadline).clock = s.clock ∧ (s.request k body ref time deadline).trunk = s.trunk ∧
    (s.request k body ref time deadline).peers = s.peers ∧ (s.request k body ref time deadline).intake = s.intake ∧
    (s.request k body ref time deadline).battery = s.battery ∧ (s.request k body ref time deadline).free = s.free ∧
    (s.request k body ref time deadline).pending = s.pending := by
  simp only [State.request]
  (repeat' split) <;> simp

@[simp] theorem State.handOver_frame (k : TxKind) (r : Request) :
    (s.handOver k r).pins = s.pins ∧ (s.handOver k r).loader = s.loader ∧ (s.handOver k r).clock = s.clock ∧
    (s.handOver k r).peers = s.peers ∧ (s.handOver k r).intake = s.intake ∧
    (s.handOver k r).detector = s.detector ∧ (s.handOver k r).co = s.co ∧ (s.handOver k r).alerts = s.alerts ∧
    (s.handOver k r).battery = s.battery ∧ (s.handOver k r).heater = s.heater ∧
    (s.handOver k r).service = s.service ∧ (s.handOver k r).free = s.free ∧ (s.handOver k r).pending = s.pending := by
  simp only [State.handOver]
  (repeat' split) <;> simp

@[simp] theorem State.reportBegun_frame (k : TxKind) (c : Time) :
    (s.reportBegun k c).pins = s.pins ∧ (s.reportBegun k c).loader = s.loader ∧
    (s.reportBegun k c).clock = s.clock ∧ (s.reportBegun k c).trunk = s.trunk ∧
    (s.reportBegun k c).peers = s.peers ∧ (s.reportBegun k c).intake = s.intake ∧
    (s.reportBegun k c).detector = s.detector ∧ (s.reportBegun k c).co = s.co ∧
    (s.reportBegun k c).alerts = s.alerts ∧ (s.reportBegun k c).battery = s.battery ∧
    (s.reportBegun k c).heater = s.heater ∧ (s.reportBegun k c).service = s.service ∧
    (s.reportBegun k c).free = s.free ∧ (s.reportBegun k c).pending = s.pending := by
  simp only [State.reportBegun]
  (repeat' split) <;> simp

@[simp] theorem State.reportSent_frame (k : TxKind) :
    (s.reportSent k).pins = s.pins ∧ (s.reportSent k).loader = s.loader ∧ (s.reportSent k).clock = s.clock ∧
    (s.reportSent k).trunk = s.trunk ∧ (s.reportSent k).peers = s.peers ∧ (s.reportSent k).intake = s.intake ∧
    (s.reportSent k).battery = s.battery ∧ (s.reportSent k).free = s.free ∧ (s.reportSent k).pending = s.pending := by
  simp only [State.reportSent]
  (repeat' split) <;> simp

@[simp] theorem State.returned_frame (k : TxKind) (b : Bool) :
    (s.returned k b).pins = s.pins ∧ (s.returned k b).loader = s.loader ∧ (s.returned k b).clock = s.clock ∧
    (s.returned k b).trunk = s.trunk ∧ (s.returned k b).peers = s.peers ∧ (s.returned k b).intake = s.intake ∧
    (s.returned k b).battery = s.battery ∧ (s.returned k b).free = s.free ∧ (s.returned k b).pending = s.pending := by
  simp only [State.returned]
  (repeat' split) <;> simp

@[simp] theorem State.expire_frame (k : TxKind) :
    (s.expire k).pins = s.pins ∧ (s.expire k).loader = s.loader ∧ (s.expire k).clock = s.clock ∧
    (s.expire k).trunk = s.trunk ∧ (s.expire k).peers = s.peers ∧ (s.expire k).intake = s.intake ∧
    (s.expire k).battery = s.battery ∧ (s.expire k).free = s.free ∧ (s.expire k).pending = s.pending := by
  simp only [State.expire]
  (repeat' split) <;> simp

@[simp] theorem State.withdraw_frame (k : AlertKind) (n : BitVec 8) (c : Cause) :
    (s.withdraw k n c).pins = s.pins ∧ (s.withdraw k n c).loader = s.loader ∧ (s.withdraw k n c).clock = s.clock ∧
    (s.withdraw k n c).trunk = s.trunk ∧ (s.withdraw k n c).peers = s.peers ∧
    (s.withdraw k n c).intake = s.intake ∧ (s.withdraw k n c).battery = s.battery ∧
    (s.withdraw k n c).free = s.free ∧ (s.withdraw k n c).pending = s.pending := by
  simp only [State.withdraw]
  (repeat' split) <;> simp

/-! ### The heater controller's operations -/

@[simp] theorem State.computeDemand_frame :
    (s.computeDemand).pins = s.pins ∧ (s.computeDemand).loader = s.loader ∧ (s.computeDemand).clock = s.clock ∧
    (s.computeDemand).trunk = s.trunk ∧ (s.computeDemand).sched = s.sched ∧ (s.computeDemand).intake = s.intake ∧
    (s.computeDemand).detector = s.detector ∧ (s.computeDemand).co = s.co ∧ (s.computeDemand).alerts = s.alerts ∧
    (s.computeDemand).battery = s.battery ∧ (s.computeDemand).service = s.service ∧
    (s.computeDemand).free = s.free ∧ (s.computeDemand).pending = s.pending := by
  simp only [State.computeDemand]
  (repeat' split) <;> simp

@[simp] theorem State.requestHeat_frame :
    (s.requestHeat).pins = s.pins ∧ (s.requestHeat).loader = s.loader ∧ (s.requestHeat).clock = s.clock ∧
    (s.requestHeat).trunk = s.trunk ∧ (s.requestHeat).peers = s.peers ∧ (s.requestHeat).intake = s.intake ∧
    (s.requestHeat).battery = s.battery ∧ (s.requestHeat).free = s.free ∧ (s.requestHeat).pending = s.pending := by
  simp only [State.requestHeat]
  (repeat' split) <;> simp

@[simp] theorem State.announceChange_frame :
    (s.announceChange).pins = s.pins ∧ (s.announceChange).loader = s.loader ∧ (s.announceChange).clock = s.clock ∧
    (s.announceChange).trunk = s.trunk ∧ (s.announceChange).peers = s.peers ∧
    (s.announceChange).intake = s.intake ∧ (s.announceChange).battery = s.battery ∧
    (s.announceChange).free = s.free ∧ (s.announceChange).pending = s.pending := by
  simp only [State.announceChange]
  (repeat' split) <;> simp

@[simp] theorem State.allocate_frame :
    (s.allocate).pins = s.pins ∧ (s.allocate).loader = s.loader ∧ (s.allocate).clock = s.clock ∧
    (s.allocate).trunk = s.trunk ∧ (s.allocate).peers = s.peers ∧ (s.allocate).sched = s.sched ∧
    (s.allocate).intake = s.intake ∧ (s.allocate).detector = s.detector ∧ (s.allocate).co = s.co ∧
    (s.allocate).alerts = s.alerts ∧ (s.allocate).battery = s.battery ∧ (s.allocate).service = s.service ∧
    (s.allocate).free = s.free ∧ (s.allocate).pending = s.pending := by
  simp only [State.allocate]
  (repeat' split) <;> simp

@[simp] theorem State.holdOnSet_frame :
    (s.holdOnSet).pins = s.pins ∧ (s.holdOnSet).loader = s.loader ∧ (s.holdOnSet).clock = s.clock ∧
    (s.holdOnSet).trunk = s.trunk ∧ (s.holdOnSet).peers = s.peers ∧ (s.holdOnSet).sched = s.sched ∧
    (s.holdOnSet).intake = s.intake ∧ (s.holdOnSet).detector = s.detector ∧ (s.holdOnSet).co = s.co ∧
    (s.holdOnSet).alerts = s.alerts ∧ (s.holdOnSet).battery = s.battery ∧ (s.holdOnSet).service = s.service ∧
    (s.holdOnSet).free = s.free ∧ (s.holdOnSet).pending = s.pending := by
  simp only [State.holdOnSet]
  (repeat' split) <;> simp

@[simp] theorem State.holdOnClear_frame :
    (s.holdOnClear).pins = s.pins ∧ (s.holdOnClear).loader = s.loader ∧ (s.holdOnClear).clock = s.clock ∧
    (s.holdOnClear).trunk = s.trunk ∧ (s.holdOnClear).peers = s.peers ∧ (s.holdOnClear).sched = s.sched ∧
    (s.holdOnClear).intake = s.intake ∧ (s.holdOnClear).detector = s.detector ∧ (s.holdOnClear).co = s.co ∧
    (s.holdOnClear).alerts = s.alerts ∧ (s.holdOnClear).battery = s.battery ∧ (s.holdOnClear).service = s.service ∧
    (s.holdOnClear).free = s.free ∧ (s.holdOnClear).pending = s.pending := by
  simp only [State.holdOnClear]
  (repeat' split) <;> simp

@[simp] theorem State.noticeTriggered_frame (b : Bool) :
    (s.noticeTriggered b).pins = s.pins ∧ (s.noticeTriggered b).loader = s.loader ∧
    (s.noticeTriggered b).clock = s.clock ∧ (s.noticeTriggered b).trunk = s.trunk ∧
    (s.noticeTriggered b).peers = s.peers ∧ (s.noticeTriggered b).sched = s.sched ∧
    (s.noticeTriggered b).intake = s.intake ∧ (s.noticeTriggered b).detector = s.detector ∧
    (s.noticeTriggered b).co = s.co ∧ (s.noticeTriggered b).alerts = s.alerts ∧
    (s.noticeTriggered b).battery = s.battery ∧ (s.noticeTriggered b).service = s.service ∧
    (s.noticeTriggered b).free = s.free ∧ (s.noticeTriggered b).pending = s.pending := by
  simp only [State.noticeTriggered]
  (repeat' split) <;> simp

@[simp] theorem State.noticeEvent_frame (b : Bool) :
    (s.noticeEvent b).pins = s.pins ∧ (s.noticeEvent b).loader = s.loader ∧ (s.noticeEvent b).clock = s.clock ∧
    (s.noticeEvent b).trunk = s.trunk ∧ (s.noticeEvent b).peers = s.peers ∧ (s.noticeEvent b).sched = s.sched ∧
    (s.noticeEvent b).intake = s.intake ∧ (s.noticeEvent b).detector = s.detector ∧ (s.noticeEvent b).co = s.co ∧
    (s.noticeEvent b).alerts = s.alerts ∧ (s.noticeEvent b).battery = s.battery ∧
    (s.noticeEvent b).service = s.service ∧ (s.noticeEvent b).free = s.free ∧ (s.noticeEvent b).pending = s.pending := by
  simp only [State.noticeEvent]
  (repeat' split) <;> simp

@[simp] theorem State.limitHold_frame :
    (s.limitHold).pins = s.pins ∧ (s.limitHold).loader = s.loader ∧ (s.limitHold).clock = s.clock ∧
    (s.limitHold).trunk = s.trunk ∧ (s.limitHold).peers = s.peers ∧ (s.limitHold).sched = s.sched ∧
    (s.limitHold).intake = s.intake ∧ (s.limitHold).detector = s.detector ∧ (s.limitHold).co = s.co ∧
    (s.limitHold).alerts = s.alerts ∧ (s.limitHold).battery = s.battery ∧ (s.limitHold).service = s.service ∧
    (s.limitHold).free = s.free ∧ (s.limitHold).pending = s.pending := by
  simp only [State.limitHold]
  (repeat' split) <;> simp

/-! ### The alert unit's operations -/

@[simp] theorem State.requestAlert_frame (n : BitVec 8) :
    (s.requestAlert n).pins = s.pins ∧ (s.requestAlert n).loader = s.loader ∧ (s.requestAlert n).clock = s.clock ∧
    (s.requestAlert n).trunk = s.trunk ∧ (s.requestAlert n).peers = s.peers ∧
    (s.requestAlert n).intake = s.intake ∧ (s.requestAlert n).battery = s.battery ∧
    (s.requestAlert n).free = s.free ∧ (s.requestAlert n).pending = s.pending := by
  simp only [State.requestAlert]
  (repeat' split) <;> simp

@[simp] theorem State.startDeference_frame (n : BitVec 8) :
    (s.startDeference n).pins = s.pins ∧ (s.startDeference n).loader = s.loader ∧
    (s.startDeference n).clock = s.clock ∧ (s.startDeference n).trunk = s.trunk ∧
    (s.startDeference n).peers = s.peers ∧ (s.startDeference n).intake = s.intake ∧
    (s.startDeference n).battery = s.battery ∧ (s.startDeference n).free = s.free ∧
    (s.startDeference n).pending = s.pending := by
  simp only [State.startDeference]
  (repeat' split) <;> simp

@[simp] theorem State.clearDeferenceOf_frame (n : BitVec 8) :
    (s.clearDeferenceOf n).pins = s.pins ∧ (s.clearDeferenceOf n).loader = s.loader ∧
    (s.clearDeferenceOf n).clock = s.clock ∧ (s.clearDeferenceOf n).trunk = s.trunk ∧
    (s.clearDeferenceOf n).peers = s.peers ∧ (s.clearDeferenceOf n).sched = s.sched ∧
    (s.clearDeferenceOf n).intake = s.intake ∧ (s.clearDeferenceOf n).detector = s.detector ∧
    (s.clearDeferenceOf n).co = s.co ∧ (s.clearDeferenceOf n).battery = s.battery ∧
    (s.clearDeferenceOf n).heater = s.heater ∧ (s.clearDeferenceOf n).service = s.service ∧
    (s.clearDeferenceOf n).free = s.free ∧ (s.clearDeferenceOf n).pending = s.pending := by
  simp only [State.clearDeferenceOf]
  (repeat' split) <;> simp

@[simp] theorem State.expireDeference_frame :
    (s.expireDeference).pins = s.pins ∧ (s.expireDeference).loader = s.loader ∧
    (s.expireDeference).clock = s.clock ∧ (s.expireDeference).trunk = s.trunk ∧
    (s.expireDeference).peers = s.peers ∧ (s.expireDeference).intake = s.intake ∧
    (s.expireDeference).battery = s.battery ∧ (s.expireDeference).free = s.free ∧
    (s.expireDeference).pending = s.pending := by
  simp only [State.expireDeference]
  (repeat' split) <;> simp

@[simp] theorem State.startPattern_frame (t : Time) :
    (s.startPattern t).pins = s.pins ∧ (s.startPattern t).loader = s.loader ∧ (s.startPattern t).clock = s.clock ∧
    (s.startPattern t).trunk = s.trunk ∧ (s.startPattern t).peers = s.peers ∧ (s.startPattern t).sched = s.sched ∧
    (s.startPattern t).intake = s.intake ∧ (s.startPattern t).detector = s.detector ∧
    (s.startPattern t).co = s.co ∧ (s.startPattern t).battery = s.battery ∧ (s.startPattern t).heater = s.heater ∧
    (s.startPattern t).service = s.service ∧ (s.startPattern t).free = s.free ∧
    (s.startPattern t).pending = s.pending := by
  simp only [State.startPattern]
  (repeat' split) <;> simp

@[simp] theorem State.nextSlot_frame (t : Time) :
    (s.nextSlot t).pins = s.pins ∧ (s.nextSlot t).loader = s.loader ∧ (s.nextSlot t).clock = s.clock ∧
    (s.nextSlot t).trunk = s.trunk ∧ (s.nextSlot t).peers = s.peers ∧ (s.nextSlot t).sched = s.sched ∧
    (s.nextSlot t).intake = s.intake ∧ (s.nextSlot t).detector = s.detector ∧ (s.nextSlot t).co = s.co ∧
    (s.nextSlot t).battery = s.battery ∧ (s.nextSlot t).heater = s.heater ∧ (s.nextSlot t).service = s.service ∧
    (s.nextSlot t).free = s.free ∧ (s.nextSlot t).pending = s.pending := by
  simp only [State.nextSlot]
  (repeat' split) <;> simp

@[simp] theorem State.annunciateBoundary_frame (t : Time) :
    (s.annunciateBoundary t).pins = s.pins ∧ (s.annunciateBoundary t).loader = s.loader ∧
    (s.annunciateBoundary t).clock = s.clock ∧ (s.annunciateBoundary t).trunk = s.trunk ∧
    (s.annunciateBoundary t).peers = s.peers ∧ (s.annunciateBoundary t).sched = s.sched ∧
    (s.annunciateBoundary t).intake = s.intake ∧ (s.annunciateBoundary t).detector = s.detector ∧
    (s.annunciateBoundary t).co = s.co ∧ (s.annunciateBoundary t).battery = s.battery ∧
    (s.annunciateBoundary t).heater = s.heater ∧ (s.annunciateBoundary t).service = s.service ∧
    (s.annunciateBoundary t).free = s.free ∧ (s.annunciateBoundary t).pending = s.pending := by
  simp only [State.annunciateBoundary]
  (repeat' split) <;> simp

@[simp] theorem State.alertMatched_frame (n : BitVec 8) :
    (s.alertMatched n).pins = s.pins ∧ (s.alertMatched n).loader = s.loader ∧ (s.alertMatched n).clock = s.clock ∧
    (s.alertMatched n).trunk = s.trunk ∧ (s.alertMatched n).peers = s.peers ∧
    (s.alertMatched n).intake = s.intake ∧ (s.alertMatched n).battery = s.battery ∧
    (s.alertMatched n).free = s.free ∧ (s.alertMatched n).pending = s.pending := by
  simp only [State.alertMatched]
  (repeat' split) <;> simp

@[simp] theorem State.raiseMatched_frame (n : BitVec 8) :
    (s.raiseMatched n).pins = s.pins ∧ (s.raiseMatched n).loader = s.loader ∧ (s.raiseMatched n).clock = s.clock ∧
    (s.raiseMatched n).trunk = s.trunk ∧ (s.raiseMatched n).peers = s.peers ∧
    (s.raiseMatched n).intake = s.intake ∧ (s.raiseMatched n).battery = s.battery ∧
    (s.raiseMatched n).free = s.free ∧ (s.raiseMatched n).pending = s.pending := by
  simp only [State.raiseMatched]
  (repeat' split) <;> simp

@[simp] theorem State.closeAlert_frame (n : BitVec 8) :
    (s.closeAlert n).pins = s.pins ∧ (s.closeAlert n).loader = s.loader ∧ (s.closeAlert n).clock = s.clock ∧
    (s.closeAlert n).trunk = s.trunk ∧ (s.closeAlert n).peers = s.peers ∧ (s.closeAlert n).intake = s.intake ∧
    (s.closeAlert n).battery = s.battery ∧ (s.closeAlert n).free = s.free ∧ (s.closeAlert n).pending = s.pending := by
  simp only [State.closeAlert]
  (repeat' split) <;> simp

@[simp] theorem State.closeRaise_frame (n : BitVec 8) :
    (s.closeRaise n).pins = s.pins ∧ (s.closeRaise n).loader = s.loader ∧ (s.closeRaise n).clock = s.clock ∧
    (s.closeRaise n).trunk = s.trunk ∧ (s.closeRaise n).peers = s.peers ∧ (s.closeRaise n).intake = s.intake ∧
    (s.closeRaise n).battery = s.battery ∧ (s.closeRaise n).free = s.free ∧ (s.closeRaise n).pending = s.pending := by
  simp only [State.closeRaise]
  (repeat' split) <;> simp

@[simp] theorem State.alertClosed_frame (n : BitVec 8) :
    (s.alertClosed n).pins = s.pins ∧ (s.alertClosed n).loader = s.loader ∧ (s.alertClosed n).clock = s.clock ∧
    (s.alertClosed n).trunk = s.trunk ∧ (s.alertClosed n).peers = s.peers ∧ (s.alertClosed n).intake = s.intake ∧
    (s.alertClosed n).battery = s.battery ∧ (s.alertClosed n).free = s.free ∧ (s.alertClosed n).pending = s.pending := by
  simp only [State.alertClosed]
  (repeat' split) <;> simp

@[simp] theorem State.noticeStrong_frame (n : Nat) :
    (s.noticeStrong n).pins = s.pins ∧ (s.noticeStrong n).loader = s.loader ∧ (s.noticeStrong n).clock = s.clock ∧
    (s.noticeStrong n).trunk = s.trunk ∧ (s.noticeStrong n).peers = s.peers ∧
    (s.noticeStrong n).intake = s.intake ∧ (s.noticeStrong n).battery = s.battery ∧
    (s.noticeStrong n).free = s.free ∧ (s.noticeStrong n).pending = s.pending := by
  simp only [State.noticeStrong]
  (repeat' split) <;> simp

/-! ### The clock's operations -/

@[simp] theorem State.applyStep_frame (x : Int) (c : StepCause) :
    (s.applyStep x c).pins = s.pins ∧ (s.applyStep x c).loader = s.loader ∧
    (s.applyStep x c).detector = s.detector ∧ (s.applyStep x c).battery = s.battery ∧
    (s.applyStep x c).service = s.service ∧ (s.applyStep x c).free = s.free ∧ (s.applyStep x c).pending = s.pending := by
  simp only [State.applyStep]
  (repeat' split) <;> simp

@[simp] theorem State.enterPeerSteered_frame :
    (s.enterPeerSteered).pins = s.pins ∧ (s.enterPeerSteered).loader = s.loader ∧
    (s.enterPeerSteered).detector = s.detector ∧ (s.enterPeerSteered).battery = s.battery ∧
    (s.enterPeerSteered).service = s.service ∧ (s.enterPeerSteered).free = s.free ∧
    (s.enterPeerSteered).pending = s.pending := by
  simp only [State.enterPeerSteered]
  (repeat' split) <;> simp

@[simp] theorem State.considerSources_frame :
    (s.considerSources).pins = s.pins ∧ (s.considerSources).loader = s.loader ∧
    (s.considerSources).detector = s.detector ∧ (s.considerSources).battery = s.battery ∧
    (s.considerSources).service = s.service ∧ (s.considerSources).free = s.free ∧
    (s.considerSources).pending = s.pending := by
  simp only [State.considerSources]
  (repeat' split) <;> simp

@[simp] theorem State.enterHoldover_frame :
    (s.enterHoldover).pins = s.pins ∧ (s.enterHoldover).loader = s.loader ∧
    (s.enterHoldover).detector = s.detector ∧ (s.enterHoldover).battery = s.battery ∧
    (s.enterHoldover).service = s.service ∧ (s.enterHoldover).free = s.free ∧ (s.enterHoldover).pending = s.pending := by
  simp only [State.enterHoldover]
  (repeat' split) <;> simp

@[simp] theorem State.considerCandidates_frame :
    (s.considerCandidates).pins = s.pins ∧ (s.considerCandidates).loader = s.loader ∧
    (s.considerCandidates).detector = s.detector ∧ (s.considerCandidates).battery = s.battery ∧
    (s.considerCandidates).service = s.service ∧ (s.considerCandidates).free = s.free ∧
    (s.considerCandidates).pending = s.pending := by
  simp only [State.considerCandidates]
  (repeat' split) <;> simp

@[simp] theorem State.reexamine_frame :
    (s.reexamine).pins = s.pins ∧ (s.reexamine).loader = s.loader ∧ (s.reexamine).detector = s.detector ∧
    (s.reexamine).battery = s.battery ∧ (s.reexamine).service = s.service ∧ (s.reexamine).free = s.free ∧
    (s.reexamine).pending = s.pending := by
  simp only [State.reexamine]
  (repeat' split) <;> simp

@[simp] theorem State.evaluatePeers_frame :
    (s.evaluatePeers).pins = s.pins ∧ (s.evaluatePeers).loader = s.loader ∧
    (s.evaluatePeers).detector = s.detector ∧ (s.evaluatePeers).battery = s.battery ∧
    (s.evaluatePeers).service = s.service ∧ (s.evaluatePeers).free = s.free ∧ (s.evaluatePeers).pending = s.pending := by
  simp only [State.evaluatePeers]
  (repeat' split) <;> simp

@[simp] theorem State.loseReference_frame :
    (s.loseReference).pins = s.pins ∧ (s.loseReference).loader = s.loader ∧
    (s.loseReference).detector = s.detector ∧ (s.loseReference).battery = s.battery ∧
    (s.loseReference).service = s.service ∧ (s.loseReference).free = s.free ∧ (s.loseReference).pending = s.pending := by
  simp only [State.loseReference]
  (repeat' split) <;> simp

@[simp] theorem State.acquisition_frame (t : Taken) :
    (s.acquisition t).pins = s.pins ∧ (s.acquisition t).loader = s.loader ∧
    (s.acquisition t).detector = s.detector ∧ (s.acquisition t).battery = s.battery ∧
    (s.acquisition t).service = s.service ∧ (s.acquisition t).free = s.free ∧ (s.acquisition t).pending = s.pending := by
  simp only [State.acquisition]
  (repeat' split) <;> simp

@[simp] theorem State.correctSeconds_frame (t : Taken) :
    (s.correctSeconds t).pins = s.pins ∧ (s.correctSeconds t).loader = s.loader ∧
    (s.correctSeconds t).detector = s.detector ∧ (s.correctSeconds t).battery = s.battery ∧
    (s.correctSeconds t).service = s.service ∧ (s.correctSeconds t).free = s.free ∧
    (s.correctSeconds t).pending = s.pending := by
  simp only [State.correctSeconds]
  (repeat' split) <;> simp

@[simp] theorem State.discipline_frame (t : Taken) :
    (s.discipline t).pins = s.pins ∧ (s.discipline t).loader = s.loader ∧ (s.discipline t).detector = s.detector ∧
    (s.discipline t).battery = s.battery ∧ (s.discipline t).service = s.service ∧ (s.discipline t).free = s.free ∧
    (s.discipline t).pending = s.pending := by
  simp only [State.discipline]
  (repeat' split) <;> simp

@[simp] theorem State.takenEdge_frame (t : Taken) :
    (s.takenEdge t).pins = s.pins ∧ (s.takenEdge t).loader = s.loader ∧ (s.takenEdge t).detector = s.detector ∧
    (s.takenEdge t).battery = s.battery ∧ (s.takenEdge t).service = s.service ∧ (s.takenEdge t).free = s.free ∧
    (s.takenEdge t).pending = s.pending := by
  simp only [State.takenEdge]
  (repeat' split) <;> simp

@[simp] theorem State.evaluateReference_frame :
    (s.evaluateReference).pins = s.pins ∧ (s.evaluateReference).loader = s.loader ∧
    (s.evaluateReference).detector = s.detector ∧ (s.evaluateReference).battery = s.battery ∧
    (s.evaluateReference).service = s.service ∧ (s.evaluateReference).free = s.free ∧
    (s.evaluateReference).pending = s.pending := by
  simp only [State.evaluateReference]
  (repeat' split) <;> simp

@[simp] theorem State.returnReference_frame :
    (s.returnReference).pins = s.pins ∧ (s.returnReference).loader = s.loader ∧
    (s.returnReference).detector = s.detector ∧ (s.returnReference).battery = s.battery ∧
    (s.returnReference).service = s.service ∧ (s.returnReference).free = s.free ∧
    (s.returnReference).pending = s.pending := by
  simp only [State.returnReference]
  (repeat' split) <;> simp

@[simp] theorem State.pairRecord_frame (x : BitVec 32) (b : Bool) :
    (s.pairRecord x b).pins = s.pins ∧ (s.pairRecord x b).loader = s.loader ∧
    (s.pairRecord x b).detector = s.detector ∧ (s.pairRecord x b).battery = s.battery ∧
    (s.pairRecord x b).service = s.service ∧ (s.pairRecord x b).free = s.free ∧
    (s.pairRecord x b).pending = s.pending := by
  simp only [State.pairRecord]
  (repeat' split) <;> simp

@[simp] theorem State.endRecord_frame (x : List Byte) :
    (s.endRecord x).pins = s.pins ∧ (s.endRecord x).loader = s.loader ∧ (s.endRecord x).detector = s.detector ∧
    (s.endRecord x).battery = s.battery ∧ (s.endRecord x).service = s.service ∧ (s.endRecord x).free = s.free ∧
    (s.endRecord x).pending = s.pending := by
  simp only [State.endRecord]
  (repeat' split) <;> simp

@[simp] theorem State.recordCharacter_frame (x : Byte) (b : Bool) :
    (s.recordCharacter x b).pins = s.pins ∧ (s.recordCharacter x b).loader = s.loader ∧
    (s.recordCharacter x b).detector = s.detector ∧ (s.recordCharacter x b).battery = s.battery ∧
    (s.recordCharacter x b).service = s.service ∧ (s.recordCharacter x b).free = s.free ∧
    (s.recordCharacter x b).pending = s.pending := by
  simp only [State.recordCharacter]
  (repeat' split) <;> simp

@[simp] theorem State.refCharacter_frame (x : Byte) (b : Bool) :
    (s.refCharacter x b).pins = s.pins ∧ (s.refCharacter x b).loader = s.loader ∧
    (s.refCharacter x b).detector = s.detector ∧ (s.refCharacter x b).battery = s.battery ∧
    (s.refCharacter x b).service = s.service ∧ (s.refCharacter x b).free = s.free ∧
    (s.refCharacter x b).pending = s.pending := by
  simp only [State.refCharacter]
  (repeat' split) <;> simp

/-! ### The trunk controller's operations -/

@[simp] theorem State.deliver_frame (f : Assembly) :
    (s.deliver f).pins = s.pins ∧ (s.deliver f).loader = s.loader ∧ (s.deliver f).clock = s.clock ∧
    (s.deliver f).sched = s.sched ∧ (s.deliver f).intake = s.intake ∧ (s.deliver f).detector = s.detector ∧
    (s.deliver f).co = s.co ∧ (s.deliver f).alerts = s.alerts ∧ (s.deliver f).battery = s.battery ∧
    (s.deliver f).heater = s.heater ∧ (s.deliver f).service = s.service ∧ (s.deliver f).free = s.free ∧
    (s.deliver f).pending = s.pending := by
  simp only [State.deliver]
  (repeat' split) <;> simp

@[simp] theorem State.dropTruncated_frame :
    (s.dropTruncated).pins = s.pins ∧ (s.dropTruncated).loader = s.loader ∧ (s.dropTruncated).clock = s.clock ∧
    (s.dropTruncated).peers = s.peers ∧ (s.dropTruncated).sched = s.sched ∧ (s.dropTruncated).intake = s.intake ∧
    (s.dropTruncated).detector = s.detector ∧ (s.dropTruncated).co = s.co ∧ (s.dropTruncated).alerts = s.alerts ∧
    (s.dropTruncated).battery = s.battery ∧ (s.dropTruncated).heater = s.heater ∧
    (s.dropTruncated).service = s.service ∧ (s.dropTruncated).free = s.free ∧ (s.dropTruncated).pending = s.pending := by
  simp only [State.dropTruncated]
  (repeat' split) <;> simp

@[simp] theorem State.headCharacter_frame (x : Byte) (c : Time) :
    (s.headCharacter x c).pins = s.pins ∧ (s.headCharacter x c).loader = s.loader ∧
    (s.headCharacter x c).clock = s.clock ∧ (s.headCharacter x c).peers = s.peers ∧
    (s.headCharacter x c).sched = s.sched ∧ (s.headCharacter x c).intake = s.intake ∧
    (s.headCharacter x c).detector = s.detector ∧ (s.headCharacter x c).co = s.co ∧
    (s.headCharacter x c).alerts = s.alerts ∧ (s.headCharacter x c).battery = s.battery ∧
    (s.headCharacter x c).heater = s.heater ∧ (s.headCharacter x c).service = s.service ∧
    (s.headCharacter x c).free = s.free ∧ (s.headCharacter x c).pending = s.pending := by
  simp only [State.headCharacter]
  (repeat' split) <;> simp

@[simp] theorem State.checkCharacter_frame (f : Assembly) (x : Byte) :
    (s.checkCharacter f x).pins = s.pins ∧ (s.checkCharacter f x).loader = s.loader ∧
    (s.checkCharacter f x).clock = s.clock ∧ (s.checkCharacter f x).sched = s.sched ∧
    (s.checkCharacter f x).intake = s.intake ∧ (s.checkCharacter f x).detector = s.detector ∧
    (s.checkCharacter f x).co = s.co ∧ (s.checkCharacter f x).alerts = s.alerts ∧
    (s.checkCharacter f x).battery = s.battery ∧ (s.checkCharacter f x).heater = s.heater ∧
    (s.checkCharacter f x).service = s.service ∧ (s.checkCharacter f x).free = s.free ∧
    (s.checkCharacter f x).pending = s.pending := by
  simp only [State.checkCharacter]
  (repeat' split) <;> simp

@[simp] theorem State.bodyCharacter_frame (x : Byte) :
    (s.bodyCharacter x).pins = s.pins ∧ (s.bodyCharacter x).loader = s.loader ∧
    (s.bodyCharacter x).clock = s.clock ∧ (s.bodyCharacter x).sched = s.sched ∧
    (s.bodyCharacter x).intake = s.intake ∧ (s.bodyCharacter x).detector = s.detector ∧
    (s.bodyCharacter x).co = s.co ∧ (s.bodyCharacter x).alerts = s.alerts ∧
    (s.bodyCharacter x).battery = s.battery ∧ (s.bodyCharacter x).heater = s.heater ∧
    (s.bodyCharacter x).service = s.service ∧ (s.bodyCharacter x).free = s.free ∧
    (s.bodyCharacter x).pending = s.pending := by
  simp only [State.bodyCharacter]
  (repeat' split) <;> simp

@[simp] theorem State.takeCharacter_frame (w : BitVec 169) (c : Time) :
    (s.takeCharacter w c).pins = s.pins ∧ (s.takeCharacter w c).loader = s.loader ∧
    (s.takeCharacter w c).clock = s.clock ∧ (s.takeCharacter w c).sched = s.sched ∧
    (s.takeCharacter w c).intake = s.intake ∧ (s.takeCharacter w c).detector = s.detector ∧
    (s.takeCharacter w c).co = s.co ∧ (s.takeCharacter w c).alerts = s.alerts ∧
    (s.takeCharacter w c).battery = s.battery ∧ (s.takeCharacter w c).heater = s.heater ∧
    (s.takeCharacter w c).service = s.service ∧ (s.takeCharacter w c).free = s.free ∧
    (s.takeCharacter w c).pending = s.pending := by
  simp only [State.takeCharacter]
  (repeat' split) <;> simp

@[simp] theorem State.ownCharacter_frame :
    (s.ownCharacter).pins = s.pins ∧ (s.ownCharacter).loader = s.loader ∧ (s.ownCharacter).clock = s.clock ∧
    (s.ownCharacter).peers = s.peers ∧ (s.ownCharacter).intake = s.intake ∧ (s.ownCharacter).battery = s.battery ∧
    (s.ownCharacter).free = s.free ∧ (s.ownCharacter).pending = s.pending := by
  simp only [State.ownCharacter]
  (repeat' split) <;> simp

@[simp] theorem State.receiveCharacter_frame (w : BitVec 169) :
    (s.receiveCharacter w).pins = s.pins ∧ (s.receiveCharacter w).loader = s.loader ∧
    (s.receiveCharacter w).clock = s.clock ∧ (s.receiveCharacter w).intake = s.intake ∧
    (s.receiveCharacter w).battery = s.battery ∧ (s.receiveCharacter w).free = s.free ∧
    (s.receiveCharacter w).pending = s.pending := by
  simp only [State.receiveCharacter]
  (repeat' split) <;> simp

@[simp] theorem State.lineBecomesIdle_frame :
    (s.lineBecomesIdle).pins = s.pins ∧ (s.lineBecomesIdle).loader = s.loader ∧
    (s.lineBecomesIdle).clock = s.clock ∧ (s.lineBecomesIdle).peers = s.peers ∧
    (s.lineBecomesIdle).sched = s.sched ∧ (s.lineBecomesIdle).intake = s.intake ∧
    (s.lineBecomesIdle).detector = s.detector ∧ (s.lineBecomesIdle).co = s.co ∧
    (s.lineBecomesIdle).alerts = s.alerts ∧ (s.lineBecomesIdle).battery = s.battery ∧
    (s.lineBecomesIdle).heater = s.heater ∧ (s.lineBecomesIdle).service = s.service ∧
    (s.lineBecomesIdle).free = s.free ∧ (s.lineBecomesIdle).pending = s.pending := by
  simp only [State.lineBecomesIdle]
  (repeat' split) <;> simp

@[simp] theorem State.startSending_frame :
    (s.startSending).pins = s.pins ∧ (s.startSending).loader = s.loader ∧ (s.startSending).clock = s.clock ∧
    (s.startSending).peers = s.peers ∧ (s.startSending).intake = s.intake ∧ (s.startSending).battery = s.battery ∧
    (s.startSending).free = s.free ∧ (s.startSending).pending = s.pending := by
  simp only [State.startSending]
  (repeat' split) <;> simp

@[simp] theorem State.loseArbitration_frame :
    (s.loseArbitration).pins = s.pins ∧ (s.loseArbitration).loader = s.loader ∧
    (s.loseArbitration).clock = s.clock ∧ (s.loseArbitration).intake = s.intake ∧
    (s.loseArbitration).battery = s.battery ∧ (s.loseArbitration).free = s.free ∧
    (s.loseArbitration).pending = s.pending := by
  simp only [State.loseArbitration]
  (repeat' split) <;> simp

@[simp] theorem State.faultDrive_frame :
    (s.faultDrive).pins = s.pins ∧ (s.faultDrive).loader = s.loader ∧ (s.faultDrive).clock = s.clock ∧
    (s.faultDrive).peers = s.peers ∧ (s.faultDrive).intake = s.intake ∧ (s.faultDrive).battery = s.battery ∧
    (s.faultDrive).free = s.free ∧ (s.faultDrive).pending = s.pending := by
  simp only [State.faultDrive]
  (repeat' split) <;> simp

@[simp] theorem State.takeGlitch_frame :
    (s.takeGlitch).pins = s.pins ∧ (s.takeGlitch).loader = s.loader ∧ (s.takeGlitch).clock = s.clock ∧
    (s.takeGlitch).peers = s.peers ∧ (s.takeGlitch).intake = s.intake ∧ (s.takeGlitch).battery = s.battery ∧
    (s.takeGlitch).free = s.free ∧ (s.takeGlitch).pending = s.pending := by
  simp only [State.takeGlitch]
  (repeat' split) <;> simp

@[simp] theorem State.readCharacter_frame (w : BitVec 169) :
    (s.readCharacter w).pins = s.pins ∧ (s.readCharacter w).loader = s.loader ∧
    (s.readCharacter w).clock = s.clock ∧ (s.readCharacter w).intake = s.intake ∧
    (s.readCharacter w).battery = s.battery ∧ (s.readCharacter w).free = s.free ∧
    (s.readCharacter w).pending = s.pending := by
  simp only [State.readCharacter]
  (repeat' split) <;> simp

/-! ### The peer table's operations -/

@[simp] theorem State.applyBeacon_frame (e : InEntry) :
    (State.applyBeacon e s).pins = s.pins ∧ (State.applyBeacon e s).loader = s.loader ∧
    (State.applyBeacon e s).detector = s.detector ∧ (State.applyBeacon e s).battery = s.battery ∧
    (State.applyBeacon e s).service = s.service ∧ (State.applyBeacon e s).free = s.free ∧
    (State.applyBeacon e s).pending = s.pending := by
  simp only [State.applyBeacon]
  (repeat' split) <;> simp

@[simp] theorem State.applyOnset_frame (e : InEntry) :
    (State.applyOnset e s).pins = s.pins ∧ (State.applyOnset e s).loader = s.loader ∧
    (State.applyOnset e s).clock = s.clock ∧ (State.applyOnset e s).trunk = s.trunk ∧
    (State.applyOnset e s).sched = s.sched ∧ (State.applyOnset e s).intake = s.intake ∧
    (State.applyOnset e s).detector = s.detector ∧ (State.applyOnset e s).alerts = s.alerts ∧
    (State.applyOnset e s).battery = s.battery ∧ (State.applyOnset e s).heater = s.heater ∧
    (State.applyOnset e s).service = s.service ∧ (State.applyOnset e s).free = s.free ∧
    (State.applyOnset e s).pending = s.pending := by
  simp only [State.applyOnset]
  (repeat' split) <;> simp

@[simp] theorem State.applyCoda_frame (e : InEntry) :
    (State.applyCoda e s).pins = s.pins ∧ (State.applyCoda e s).loader = s.loader ∧
    (State.applyCoda e s).clock = s.clock ∧ (State.applyCoda e s).trunk = s.trunk ∧
    (State.applyCoda e s).sched = s.sched ∧ (State.applyCoda e s).intake = s.intake ∧
    (State.applyCoda e s).detector = s.detector ∧ (State.applyCoda e s).alerts = s.alerts ∧
    (State.applyCoda e s).battery = s.battery ∧ (State.applyCoda e s).heater = s.heater ∧
    (State.applyCoda e s).service = s.service ∧ (State.applyCoda e s).free = s.free ∧
    (State.applyCoda e s).pending = s.pending := by
  simp only [State.applyCoda]
  (repeat' split) <;> simp

@[simp] theorem State.applyHeat_frame (e : InEntry) :
    (State.applyHeat e s).pins = s.pins ∧ (State.applyHeat e s).loader = s.loader ∧
    (State.applyHeat e s).clock = s.clock ∧ (State.applyHeat e s).trunk = s.trunk ∧
    (State.applyHeat e s).sched = s.sched ∧ (State.applyHeat e s).intake = s.intake ∧
    (State.applyHeat e s).detector = s.detector ∧ (State.applyHeat e s).co = s.co ∧
    (State.applyHeat e s).alerts = s.alerts ∧ (State.applyHeat e s).battery = s.battery ∧
    (State.applyHeat e s).heater = s.heater ∧ (State.applyHeat e s).service = s.service ∧
    (State.applyHeat e s).free = s.free ∧ (State.applyHeat e s).pending = s.pending := by
  simp only [State.applyHeat]
  (repeat' split) <;> simp

@[simp] theorem State.applyAlert_frame (e : InEntry) :
    (State.applyAlert e s).pins = s.pins ∧ (State.applyAlert e s).loader = s.loader ∧
    (State.applyAlert e s).clock = s.clock ∧ (State.applyAlert e s).trunk = s.trunk ∧
    (State.applyAlert e s).sched = s.sched ∧ (State.applyAlert e s).intake = s.intake ∧
    (State.applyAlert e s).detector = s.detector ∧ (State.applyAlert e s).alerts = s.alerts ∧
    (State.applyAlert e s).battery = s.battery ∧ (State.applyAlert e s).heater = s.heater ∧
    (State.applyAlert e s).service = s.service ∧ (State.applyAlert e s).free = s.free ∧
    (State.applyAlert e s).pending = s.pending := by
  simp only [State.applyAlert]
  (repeat' split) <;> simp

@[simp] theorem State.applyRaise_frame (e : InEntry) :
    (State.applyRaise e s).pins = s.pins ∧ (State.applyRaise e s).loader = s.loader ∧
    (State.applyRaise e s).clock = s.clock ∧ (State.applyRaise e s).trunk = s.trunk ∧
    (State.applyRaise e s).sched = s.sched ∧ (State.applyRaise e s).intake = s.intake ∧
    (State.applyRaise e s).detector = s.detector ∧ (State.applyRaise e s).alerts = s.alerts ∧
    (State.applyRaise e s).battery = s.battery ∧ (State.applyRaise e s).heater = s.heater ∧
    (State.applyRaise e s).service = s.service ∧ (State.applyRaise e s).free = s.free ∧
    (State.applyRaise e s).pending = s.pending := by
  simp only [State.applyRaise]
  (repeat' split) <;> simp

@[simp] theorem State.agePeers_frame :
    (s.agePeers).pins = s.pins ∧ (s.agePeers).loader = s.loader ∧ (s.agePeers).clock = s.clock ∧
    (s.agePeers).trunk = s.trunk ∧ (s.agePeers).sched = s.sched ∧ (s.agePeers).intake = s.intake ∧
    (s.agePeers).detector = s.detector ∧ (s.agePeers).co = s.co ∧ (s.agePeers).alerts = s.alerts ∧
    (s.agePeers).battery = s.battery ∧ (s.agePeers).heater = s.heater ∧ (s.agePeers).service = s.service ∧
    (s.agePeers).free = s.free ∧ (s.agePeers).pending = s.pending := by
  simp only [State.agePeers]
  (repeat' split) <;> simp

/-! ### The intake's and the detector's operations -/

@[simp] theorem State.onset_frame (t : Time) (b : Bool) (c : Nat) :
    (s.onset t b c).pins = s.pins ∧ (s.onset t b c).loader = s.loader ∧ (s.onset t b c).clock = s.clock ∧
    (s.onset t b c).trunk = s.trunk ∧ (s.onset t b c).intake = s.intake ∧ (s.onset t b c).battery = s.battery ∧
    (s.onset t b c).free = s.free ∧ (s.onset t b c).pending = s.pending := by
  simp only [State.onset]
  (repeat' split) <;> simp

@[simp] theorem State.endTrigger_frame (x : EndReason) :
    (s.endTrigger x).pins = s.pins ∧ (s.endTrigger x).loader = s.loader ∧ (s.endTrigger x).clock = s.clock ∧
    (s.endTrigger x).trunk = s.trunk ∧ (s.endTrigger x).intake = s.intake ∧ (s.endTrigger x).battery = s.battery ∧
    (s.endTrigger x).free = s.free ∧ (s.endTrigger x).pending = s.pending := by
  simp only [State.endTrigger]
  (repeat' split) <;> simp

@[simp] theorem State.endNormally_frame :
    (s.endNormally).pins = s.pins ∧ (s.endNormally).loader = s.loader ∧ (s.endNormally).clock = s.clock ∧
    (s.endNormally).trunk = s.trunk ∧ (s.endNormally).intake = s.intake ∧ (s.endNormally).battery = s.battery ∧
    (s.endNormally).free = s.free ∧ (s.endNormally).pending = s.pending := by
  simp only [State.endNormally]
  (repeat' split) <;> simp

@[simp] theorem State.strongTest_frame :
    (s.strongTest).pins = s.pins ∧ (s.strongTest).loader = s.loader ∧ (s.strongTest).clock = s.clock ∧
    (s.strongTest).trunk = s.trunk ∧ (s.strongTest).peers = s.peers ∧ (s.strongTest).intake = s.intake ∧
    (s.strongTest).battery = s.battery ∧ (s.strongTest).free = s.free ∧ (s.strongTest).pending = s.pending := by
  simp only [State.strongTest]
  (repeat' split) <;> simp

@[simp] theorem State.trackTrigger_frame (c : Nat) :
    (s.trackTrigger c).pins = s.pins ∧ (s.trackTrigger c).loader = s.loader ∧ (s.trackTrigger c).clock = s.clock ∧
    (s.trackTrigger c).trunk = s.trunk ∧ (s.trackTrigger c).intake = s.intake ∧
    (s.trackTrigger c).battery = s.battery ∧ (s.trackTrigger c).free = s.free ∧
    (s.trackTrigger c).pending = s.pending := by
  simp only [State.trackTrigger]
  (repeat' split) <;> simp

@[simp] theorem State.actOnSet_frame (t : Time) (b : Bool) (c : Nat) :
    (s.actOnSet t b c).pins = s.pins ∧ (s.actOnSet t b c).loader = s.loader ∧ (s.actOnSet t b c).clock = s.clock ∧
    (s.actOnSet t b c).trunk = s.trunk ∧ (s.actOnSet t b c).intake = s.intake ∧
    (s.actOnSet t b c).battery = s.battery ∧ (s.actOnSet t b c).free = s.free ∧
    (s.actOnSet t b c).pending = s.pending := by
  simp only [State.actOnSet]
  (repeat' split) <;> simp

@[simp] theorem State.processSet_frame (x : Delivered) (b : Bool) :
    (s.processSet x b).pins = s.pins ∧ (s.processSet x b).loader = s.loader ∧ (s.processSet x b).clock = s.clock ∧
    (s.processSet x b).trunk = s.trunk ∧ (s.processSet x b).intake = s.intake ∧
    (s.processSet x b).battery = s.battery ∧ (s.processSet x b).free = s.free ∧
    (s.processSet x b).pending = s.pending := by
  simp only [State.processSet]
  (repeat' split) <;> simp

@[simp] theorem State.handSet_frame (x : Delivered) (b : Bool) :
    (s.handSet x b).pins = s.pins ∧ (s.handSet x b).loader = s.loader ∧ (s.handSet x b).clock = s.clock ∧
    (s.handSet x b).trunk = s.trunk ∧ (s.handSet x b).intake = s.intake ∧ (s.handSet x b).battery = s.battery ∧
    (s.handSet x b).free = s.free ∧ (s.handSet x b).pending = s.pending := by
  simp only [State.handSet]
  (repeat' split) <;> simp

@[simp] theorem State.halt_frame :
    (s.halt).pins = s.pins ∧ (s.halt).loader = s.loader ∧ (s.halt).clock = s.clock ∧ (s.halt).trunk = s.trunk ∧
    (s.halt).intake = s.intake ∧ (s.halt).battery = s.battery ∧ (s.halt).free = s.free ∧
    (s.halt).pending = s.pending := by
  simp only [State.halt]
  (repeat' split) <;> simp

@[simp] theorem State.endByForce_frame :
    (s.endByForce).pins = s.pins ∧ (s.endByForce).loader = s.loader ∧ (s.endByForce).clock = s.clock ∧
    (s.endByForce).trunk = s.trunk ∧ (s.endByForce).intake = s.intake ∧ (s.endByForce).battery = s.battery ∧
    (s.endByForce).free = s.free ∧ (s.endByForce).pending = s.pending := by
  simp only [State.endByForce]
  (repeat' split) <;> simp

@[simp] theorem State.arrive_frame (x : BitVec 72) :
    (s.arrive x).pins = s.pins ∧ (s.arrive x).loader = s.loader ∧ (s.arrive x).clock = s.clock ∧
    (s.arrive x).trunk = s.trunk ∧ (s.arrive x).peers = s.peers ∧ (s.arrive x).sched = s.sched ∧
    (s.arrive x).detector = s.detector ∧ (s.arrive x).co = s.co ∧ (s.arrive x).alerts = s.alerts ∧
    (s.arrive x).battery = s.battery ∧ (s.arrive x).heater = s.heater ∧ (s.arrive x).service = s.service ∧
    (s.arrive x).free = s.free ∧ (s.arrive x).pending = s.pending := by
  simp only [State.arrive]
  (repeat' split) <;> simp

@[simp] theorem State.deliverOldest_frame (e : SetEntry) (l : List SetEntry) :
    (s.deliverOldest e l).pins = s.pins ∧ (s.deliverOldest e l).loader = s.loader ∧
    (s.deliverOldest e l).clock = s.clock ∧ (s.deliverOldest e l).trunk = s.trunk ∧
    (s.deliverOldest e l).battery = s.battery ∧ (s.deliverOldest e l).free = s.free ∧
    (s.deliverOldest e l).pending = s.pending := by
  simp only [State.deliverOldest]
  (repeat' split) <;> simp

@[simp] theorem State.repeatLast_frame :
    (s.repeatLast).pins = s.pins ∧ (s.repeatLast).loader = s.loader ∧ (s.repeatLast).clock = s.clock ∧
    (s.repeatLast).trunk = s.trunk ∧ (s.repeatLast).battery = s.battery ∧ (s.repeatLast).free = s.free ∧
    (s.repeatLast).pending = s.pending := by
  simp only [State.repeatLast]
  (repeat' split) <;> simp

@[simp] theorem State.tick_frame (t : Time) :
    (s.tick t).pins = s.pins ∧ (s.tick t).loader = s.loader ∧ (s.tick t).clock = s.clock ∧
    (s.tick t).trunk = s.trunk ∧ (s.tick t).battery = s.battery ∧ (s.tick t).free = s.free ∧
    (s.tick t).pending = s.pending := by
  simp only [State.tick]
  (repeat' split) <;> simp

@[simp] theorem State.stall_frame :
    (s.stall).pins = s.pins ∧ (s.stall).loader = s.loader ∧ (s.stall).clock = s.clock ∧ (s.stall).trunk = s.trunk ∧
    (s.stall).battery = s.battery ∧ (s.stall).free = s.free ∧ (s.stall).pending = s.pending := by
  simp only [State.stall]
  (repeat' split) <;> simp

/-! ### The coincidence unit's operations -/

@[simp] theorem State.consume_frame (l : List Station) :
    (s.consume l).pins = s.pins ∧ (s.consume l).loader = s.loader ∧ (s.consume l).clock = s.clock ∧
    (s.consume l).trunk = s.trunk ∧ (s.consume l).sched = s.sched ∧ (s.consume l).intake = s.intake ∧
    (s.consume l).detector = s.detector ∧ (s.consume l).co = s.co ∧ (s.consume l).alerts = s.alerts ∧
    (s.consume l).battery = s.battery ∧ (s.consume l).heater = s.heater ∧ (s.consume l).service = s.service ∧
    (s.consume l).free = s.free ∧ (s.consume l).pending = s.pending := by
  simp only [State.consume]
  (repeat' split) <;> simp

@[simp] theorem State.closeRecord_frame (n : BitVec 8) :
    (s.closeRecord n).pins = s.pins ∧ (s.closeRecord n).loader = s.loader ∧ (s.closeRecord n).clock = s.clock ∧
    (s.closeRecord n).trunk = s.trunk ∧ (s.closeRecord n).peers = s.peers ∧ (s.closeRecord n).intake = s.intake ∧
    (s.closeRecord n).battery = s.battery ∧ (s.closeRecord n).free = s.free ∧ (s.closeRecord n).pending = s.pending := by
  simp only [State.closeRecord]
  (repeat' split) <;> simp

@[simp] theorem State.closeOpen_frame :
    (s.closeOpen).pins = s.pins ∧ (s.closeOpen).loader = s.loader ∧ (s.closeOpen).clock = s.clock ∧
    (s.closeOpen).trunk = s.trunk ∧ (s.closeOpen).peers = s.peers ∧ (s.closeOpen).intake = s.intake ∧
    (s.closeOpen).battery = s.battery ∧ (s.closeOpen).free = s.free ∧ (s.closeOpen).pending = s.pending := by
  simp only [State.closeOpen]
  (repeat' split) <;> simp

@[simp] theorem State.removeOldest_frame :
    (s.removeOldest).pins = s.pins ∧ (s.removeOldest).loader = s.loader ∧ (s.removeOldest).clock = s.clock ∧
    (s.removeOldest).trunk = s.trunk ∧ (s.removeOldest).peers = s.peers ∧ (s.removeOldest).sched = s.sched ∧
    (s.removeOldest).intake = s.intake ∧ (s.removeOldest).detector = s.detector ∧
    (s.removeOldest).battery = s.battery ∧ (s.removeOldest).heater = s.heater ∧
    (s.removeOldest).service = s.service ∧ (s.removeOldest).free = s.free ∧ (s.removeOldest).pending = s.pending := by
  simp only [State.removeOldest]
  (repeat' split) <;> simp

@[simp] theorem State.enterRecord_frame (e : Event) :
    (s.enterRecord e).pins = s.pins ∧ (s.enterRecord e).loader = s.loader ∧ (s.enterRecord e).clock = s.clock ∧
    (s.enterRecord e).trunk = s.trunk ∧ (s.enterRecord e).peers = s.peers ∧ (s.enterRecord e).sched = s.sched ∧
    (s.enterRecord e).intake = s.intake ∧ (s.enterRecord e).detector = s.detector ∧
    (s.enterRecord e).battery = s.battery ∧ (s.enterRecord e).heater = s.heater ∧
    (s.enterRecord e).service = s.service ∧ (s.enterRecord e).free = s.free ∧ (s.enterRecord e).pending = s.pending := by
  simp only [State.enterRecord]
  (repeat' split) <;> simp

@[simp] theorem State.tellOpened_frame (b : Bool) :
    (s.tellOpened b).pins = s.pins ∧ (s.tellOpened b).loader = s.loader ∧ (s.tellOpened b).clock = s.clock ∧
    (s.tellOpened b).trunk = s.trunk ∧ (s.tellOpened b).peers = s.peers ∧ (s.tellOpened b).sched = s.sched ∧
    (s.tellOpened b).intake = s.intake ∧ (s.tellOpened b).detector = s.detector ∧ (s.tellOpened b).co = s.co ∧
    (s.tellOpened b).battery = s.battery ∧ (s.tellOpened b).service = s.service ∧ (s.tellOpened b).free = s.free ∧
    (s.tellOpened b).pending = s.pending := by
  simp only [State.tellOpened]
  (repeat' split) <;> simp

@[simp] theorem State.join_frame (n : BitVec 8) (m : Member) :
    (s.join n m).pins = s.pins ∧ (s.join n m).loader = s.loader ∧ (s.join n m).clock = s.clock ∧
    (s.join n m).trunk = s.trunk ∧ (s.join n m).sched = s.sched ∧ (s.join n m).intake = s.intake ∧
    (s.join n m).detector = s.detector ∧ (s.join n m).alerts = s.alerts ∧ (s.join n m).battery = s.battery ∧
    (s.join n m).heater = s.heater ∧ (s.join n m).service = s.service ∧ (s.join n m).free = s.free ∧
    (s.join n m).pending = s.pending := by
  simp only [State.join]
  (repeat' split) <;> simp

@[simp] theorem State.fold_frame (n : BitVec 8) (l : List Member) :
    (s.fold n l).pins = s.pins ∧ (s.fold n l).loader = s.loader ∧ (s.fold n l).clock = s.clock ∧
    (s.fold n l).trunk = s.trunk ∧ (s.fold n l).sched = s.sched ∧ (s.fold n l).intake = s.intake ∧
    (s.fold n l).detector = s.detector ∧ (s.fold n l).alerts = s.alerts ∧ (s.fold n l).battery = s.battery ∧
    (s.fold n l).heater = s.heater ∧ (s.fold n l).service = s.service ∧ (s.fold n l).free = s.free ∧
    (s.fold n l).pending = s.pending := by
  simp only [State.fold]
  (repeat' split) <;> simp

@[simp] theorem State.declare_frame (m : Member) (l : List Member) :
    (s.declare m l).pins = s.pins ∧ (s.declare m l).loader = s.loader ∧ (s.declare m l).clock = s.clock ∧
    (s.declare m l).trunk = s.trunk ∧ (s.declare m l).intake = s.intake ∧ (s.declare m l).battery = s.battery ∧
    (s.declare m l).free = s.free ∧ (s.declare m l).pending = s.pending := by
  simp only [State.declare]
  (repeat' split) <;> simp

@[simp] theorem State.vote_frame (t : Time) :
    (s.vote t).pins = s.pins ∧ (s.vote t).loader = s.loader ∧ (s.vote t).clock = s.clock ∧
    (s.vote t).trunk = s.trunk ∧ (s.vote t).intake = s.intake ∧ (s.vote t).battery = s.battery ∧
    (s.vote t).free = s.free ∧ (s.vote t).pending = s.pending := by
  simp only [State.vote]
  (repeat' split) <;> simp

@[simp] theorem State.takeVote_frame (n : Station) (t : Time) :
    (s.takeVote n t).pins = s.pins ∧ (s.takeVote n t).loader = s.loader ∧ (s.takeVote n t).clock = s.clock ∧
    (s.takeVote n t).trunk = s.trunk ∧ (s.takeVote n t).intake = s.intake ∧ (s.takeVote n t).battery = s.battery ∧
    (s.takeVote n t).free = s.free ∧ (s.takeVote n t).pending = s.pending := by
  simp only [State.takeVote]
  (repeat' split) <;> simp

@[simp] theorem State.countMalformed_frame :
    (s.countMalformed).pins = s.pins ∧ (s.countMalformed).loader = s.loader ∧ (s.countMalformed).clock = s.clock ∧
    (s.countMalformed).trunk = s.trunk ∧ (s.countMalformed).peers = s.peers ∧ (s.countMalformed).sched = s.sched ∧
    (s.countMalformed).intake = s.intake ∧ (s.countMalformed).detector = s.detector ∧
    (s.countMalformed).alerts = s.alerts ∧ (s.countMalformed).battery = s.battery ∧
    (s.countMalformed).heater = s.heater ∧ (s.countMalformed).service = s.service ∧
    (s.countMalformed).free = s.free ∧ (s.countMalformed).pending = s.pending := by
  simp only [State.countMalformed]
  (repeat' split) <;> simp

@[simp] theorem State.matchAlert_frame (n : BitVec 8) (h : Heard) :
    (s.matchAlert n h).pins = s.pins ∧ (s.matchAlert n h).loader = s.loader ∧ (s.matchAlert n h).clock = s.clock ∧
    (s.matchAlert n h).trunk = s.trunk ∧ (s.matchAlert n h).peers = s.peers ∧
    (s.matchAlert n h).intake = s.intake ∧ (s.matchAlert n h).battery = s.battery ∧
    (s.matchAlert n h).free = s.free ∧ (s.matchAlert n h).pending = s.pending := by
  simp only [State.matchAlert]
  (repeat' split) <;> simp

@[simp] theorem State.adopt_frame (h : Heard) :
    (s.adopt h).pins = s.pins ∧ (s.adopt h).loader = s.loader ∧ (s.adopt h).clock = s.clock ∧
    (s.adopt h).trunk = s.trunk ∧ (s.adopt h).intake = s.intake ∧ (s.adopt h).battery = s.battery ∧
    (s.adopt h).free = s.free ∧ (s.adopt h).pending = s.pending := by
  simp only [State.adopt]
  (repeat' split) <;> simp

@[simp] theorem State.hearAlert_frame (b : List Byte) :
    (s.hearAlert b).pins = s.pins ∧ (s.hearAlert b).loader = s.loader ∧ (s.hearAlert b).clock = s.clock ∧
    (s.hearAlert b).trunk = s.trunk ∧ (s.hearAlert b).intake = s.intake ∧ (s.hearAlert b).battery = s.battery ∧
    (s.hearAlert b).free = s.free ∧ (s.hearAlert b).pending = s.pending := by
  simp only [State.hearAlert]
  (repeat' split) <;> simp

@[simp] theorem State.hearRaise_frame (b : List Byte) :
    (s.hearRaise b).pins = s.pins ∧ (s.hearRaise b).loader = s.loader ∧ (s.hearRaise b).clock = s.clock ∧
    (s.hearRaise b).trunk = s.trunk ∧ (s.hearRaise b).peers = s.peers ∧ (s.hearRaise b).intake = s.intake ∧
    (s.hearRaise b).battery = s.battery ∧ (s.hearRaise b).free = s.free ∧ (s.hearRaise b).pending = s.pending := by
  simp only [State.hearRaise]
  (repeat' split) <;> simp

@[simp] theorem State.takePeak_frame (n : Station) (t : Time) (p : Nat) :
    (s.takePeak n t p).pins = s.pins ∧ (s.takePeak n t p).loader = s.loader ∧ (s.takePeak n t p).clock = s.clock ∧
    (s.takePeak n t p).trunk = s.trunk ∧ (s.takePeak n t p).peers = s.peers ∧ (s.takePeak n t p).sched = s.sched ∧
    (s.takePeak n t p).intake = s.intake ∧ (s.takePeak n t p).detector = s.detector ∧
    (s.takePeak n t p).alerts = s.alerts ∧ (s.takePeak n t p).battery = s.battery ∧
    (s.takePeak n t p).heater = s.heater ∧ (s.takePeak n t p).service = s.service ∧
    (s.takePeak n t p).free = s.free ∧ (s.takePeak n t p).pending = s.pending := by
  simp only [State.takePeak]
  (repeat' split) <;> simp

@[simp] theorem State.takeClosing_frame (n : BitVec 8) :
    (s.takeClosing n).pins = s.pins ∧ (s.takeClosing n).loader = s.loader ∧ (s.takeClosing n).clock = s.clock ∧
    (s.takeClosing n).trunk = s.trunk ∧ (s.takeClosing n).peers = s.peers ∧ (s.takeClosing n).intake = s.intake ∧
    (s.takeClosing n).battery = s.battery ∧ (s.takeClosing n).free = s.free ∧ (s.takeClosing n).pending = s.pending := by
  simp only [State.takeClosing]
  (repeat' split) <;> simp

@[simp] theorem State.takeRaiseSent_frame (n : BitVec 8) :
    (s.takeRaiseSent n).pins = s.pins ∧ (s.takeRaiseSent n).loader = s.loader ∧
    (s.takeRaiseSent n).clock = s.clock ∧ (s.takeRaiseSent n).trunk = s.trunk ∧
    (s.takeRaiseSent n).peers = s.peers ∧ (s.takeRaiseSent n).sched = s.sched ∧
    (s.takeRaiseSent n).intake = s.intake ∧ (s.takeRaiseSent n).detector = s.detector ∧
    (s.takeRaiseSent n).alerts = s.alerts ∧ (s.takeRaiseSent n).battery = s.battery ∧
    (s.takeRaiseSent n).heater = s.heater ∧ (s.takeRaiseSent n).service = s.service ∧
    (s.takeRaiseSent n).free = s.free ∧ (s.takeRaiseSent n).pending = s.pending := by
  simp only [State.takeRaiseSent]
  (repeat' split) <;> simp

@[simp] theorem State.doneFor_frame (x : Source) :
    (s.doneFor x).pins = s.pins ∧ (s.doneFor x).loader = s.loader ∧ (s.doneFor x).clock = s.clock ∧
    (s.doneFor x).trunk = s.trunk ∧ (s.doneFor x).sched = s.sched ∧ (s.doneFor x).intake = s.intake ∧
    (s.doneFor x).detector = s.detector ∧ (s.doneFor x).co = s.co ∧ (s.doneFor x).alerts = s.alerts ∧
    (s.doneFor x).battery = s.battery ∧ (s.doneFor x).heater = s.heater ∧ (s.doneFor x).service = s.service ∧
    (s.doneFor x).free = s.free ∧ (s.doneFor x).pending = s.pending := by
  simp only [State.doneFor]
  (repeat' split) <;> simp

/-! ### The battery monitor's operations -/

@[simp] theorem State.changeStage_frame (x : Stage) :
    (s.changeStage x).pins = s.pins ∧ (s.changeStage x).loader = s.loader ∧ (s.changeStage x).clock = s.clock ∧
    (s.changeStage x).trunk = s.trunk ∧ (s.changeStage x).peers = s.peers ∧ (s.changeStage x).sched = s.sched ∧
    (s.changeStage x).intake = s.intake ∧ (s.changeStage x).detector = s.detector ∧ (s.changeStage x).co = s.co ∧
    (s.changeStage x).alerts = s.alerts ∧ (s.changeStage x).service = s.service ∧ (s.changeStage x).free = s.free ∧
    (s.changeStage x).pending = s.pending := by
  simp only [State.changeStage]
  (repeat' split) <;> simp

@[simp] theorem State.applySocTest_frame :
    (s.applySocTest).pins = s.pins ∧ (s.applySocTest).loader = s.loader ∧ (s.applySocTest).clock = s.clock ∧
    (s.applySocTest).trunk = s.trunk ∧ (s.applySocTest).peers = s.peers ∧ (s.applySocTest).sched = s.sched ∧
    (s.applySocTest).intake = s.intake ∧ (s.applySocTest).detector = s.detector ∧ (s.applySocTest).co = s.co ∧
    (s.applySocTest).alerts = s.alerts ∧ (s.applySocTest).service = s.service ∧ (s.applySocTest).free = s.free ∧
    (s.applySocTest).pending = s.pending := by
  simp only [State.applySocTest]
  (repeat' split) <;> simp

@[simp] theorem State.stageTests_frame :
    (s.stageTests).pins = s.pins ∧ (s.stageTests).loader = s.loader ∧ (s.stageTests).clock = s.clock ∧
    (s.stageTests).trunk = s.trunk ∧ (s.stageTests).peers = s.peers ∧ (s.stageTests).sched = s.sched ∧
    (s.stageTests).intake = s.intake ∧ (s.stageTests).detector = s.detector ∧ (s.stageTests).co = s.co ∧
    (s.stageTests).alerts = s.alerts ∧ (s.stageTests).service = s.service ∧ (s.stageTests).free = s.free ∧
    (s.stageTests).pending = s.pending := by
  simp only [State.stageTests]
  (repeat' split) <;> simp

@[simp] theorem State.takeReading_frame (r : Readings) :
    (s.takeReading r).pins = s.pins ∧ (s.takeReading r).loader = s.loader ∧ (s.takeReading r).clock = s.clock ∧
    (s.takeReading r).trunk = s.trunk ∧ (s.takeReading r).peers = s.peers ∧ (s.takeReading r).sched = s.sched ∧
    (s.takeReading r).intake = s.intake ∧ (s.takeReading r).detector = s.detector ∧ (s.takeReading r).co = s.co ∧
    (s.takeReading r).alerts = s.alerts ∧ (s.takeReading r).service = s.service ∧ (s.takeReading r).free = s.free ∧
    (s.takeReading r).pending = s.pending := by
  simp only [State.takeReading]
  (repeat' split) <;> simp

@[simp] theorem State.bringComputation_frame (x : BitVec 32) :
    (s.bringComputation x).pins = s.pins ∧ (s.bringComputation x).loader = s.loader ∧
    (s.bringComputation x).clock = s.clock ∧ (s.bringComputation x).trunk = s.trunk ∧
    (s.bringComputation x).peers = s.peers ∧ (s.bringComputation x).sched = s.sched ∧
    (s.bringComputation x).intake = s.intake ∧ (s.bringComputation x).detector = s.detector ∧
    (s.bringComputation x).co = s.co ∧ (s.bringComputation x).alerts = s.alerts ∧
    (s.bringComputation x).battery = s.battery ∧ (s.bringComputation x).service = s.service ∧
    (s.bringComputation x).free = s.free ∧ (s.bringComputation x).pending = s.pending := by
  simp only [State.bringComputation]
  (repeat' split) <;> simp

@[simp] theorem State.resync_frame :
    (s.resync).pins = s.pins ∧ (s.resync).loader = s.loader ∧ (s.resync).clock = s.clock ∧
    (s.resync).trunk = s.trunk ∧ (s.resync).peers = s.peers ∧ (s.resync).sched = s.sched ∧
    (s.resync).intake = s.intake ∧ (s.resync).detector = s.detector ∧ (s.resync).co = s.co ∧
    (s.resync).alerts = s.alerts ∧ (s.resync).service = s.service ∧ (s.resync).free = s.free ∧
    (s.resync).pending = s.pending := by
  simp only [State.resync]
  (repeat' split) <;> simp

@[simp] theorem State.enterShed_frame :
    (s.enterShed).pins = s.pins ∧ (s.enterShed).loader = s.loader ∧ (s.enterShed).clock = s.clock ∧
    (s.enterShed).trunk = s.trunk ∧ (s.enterShed).free = s.free ∧ (s.enterShed).pending = s.pending := by
  simp only [State.enterShed]
  (repeat' split) <;> simp

@[simp] theorem State.leaveShed_frame :
    (s.leaveShed).pins = s.pins ∧ (s.leaveShed).loader = s.loader ∧ (s.leaveShed).clock = s.clock ∧
    (s.leaveShed).trunk = s.trunk ∧ (s.leaveShed).peers = s.peers ∧ (s.leaveShed).sched = s.sched ∧
    (s.leaveShed).intake = s.intake ∧ (s.leaveShed).detector = s.detector ∧ (s.leaveShed).co = s.co ∧
    (s.leaveShed).alerts = s.alerts ∧ (s.leaveShed).service = s.service ∧ (s.leaveShed).free = s.free ∧
    (s.leaveShed).pending = s.pending := by
  simp only [State.leaveShed]
  (repeat' split) <;> simp

/-! ### The service responder's and the start-up block's operations -/

@[simp] theorem State.requestReply_frame (n : Nat) (b : Byte) (d : List Byte) :
    (s.requestReply n b d).pins = s.pins ∧ (s.requestReply n b d).loader = s.loader ∧
    (s.requestReply n b d).clock = s.clock ∧ (s.requestReply n b d).trunk = s.trunk ∧
    (s.requestReply n b d).peers = s.peers ∧ (s.requestReply n b d).intake = s.intake ∧
    (s.requestReply n b d).battery = s.battery ∧ (s.requestReply n b d).pending = s.pending := by
  simp only [State.requestReply]
  (repeat' split) <;> simp

@[simp] theorem State.takeQuery_frame (n : Nat) (b : Byte) :
    (s.takeQuery n b).pins = s.pins ∧ (s.takeQuery n b).loader = s.loader ∧ (s.takeQuery n b).clock = s.clock ∧
    (s.takeQuery n b).trunk = s.trunk ∧ (s.takeQuery n b).peers = s.peers ∧ (s.takeQuery n b).intake = s.intake ∧
    (s.takeQuery n b).battery = s.battery ∧ (s.takeQuery n b).pending = s.pending := by
  simp only [State.takeQuery]
  (repeat' split) <;> simp

@[simp] theorem State.applyQuery_frame (e : InEntry) :
    (State.applyQuery e s).pins = s.pins ∧ (State.applyQuery e s).loader = s.loader ∧
    (State.applyQuery e s).clock = s.clock ∧ (State.applyQuery e s).trunk = s.trunk ∧
    (State.applyQuery e s).peers = s.peers ∧ (State.applyQuery e s).intake = s.intake ∧
    (State.applyQuery e s).battery = s.battery ∧ (State.applyQuery e s).pending = s.pending := by
  simp only [State.applyQuery]
  (repeat' split) <;> simp

@[simp] theorem State.startBattery_frame :
    (s.startBattery).pins = s.pins ∧ (s.startBattery).loader = s.loader ∧ (s.startBattery).clock = s.clock ∧
    (s.startBattery).trunk = s.trunk ∧ (s.startBattery).peers = s.peers ∧ (s.startBattery).sched = s.sched ∧
    (s.startBattery).intake = s.intake ∧ (s.startBattery).detector = s.detector ∧ (s.startBattery).co = s.co ∧
    (s.startBattery).alerts = s.alerts ∧ (s.startBattery).heater = s.heater ∧
    (s.startBattery).service = s.service ∧ (s.startBattery).free = s.free ∧ (s.startBattery).pending = s.pending := by
  simp only [State.startBattery]
  (repeat' split) <;> simp

@[simp] theorem State.endLoading_frame (o : LoadOutcome) :
    (s.endLoading o).pins = s.pins ∧ (s.endLoading o).peers = s.peers ∧ (s.endLoading o).sched = s.sched ∧
    (s.endLoading o).intake = s.intake ∧ (s.endLoading o).detector = s.detector ∧ (s.endLoading o).co = s.co ∧
    (s.endLoading o).alerts = s.alerts ∧ (s.endLoading o).service = s.service ∧ (s.endLoading o).free = s.free ∧
    (s.endLoading o).pending = s.pending := by
  simp only [State.endLoading]
  (repeat' split) <;> simp

@[simp] theorem State.nextAttempt_frame :
    (s.nextAttempt).pins = s.pins ∧ (s.nextAttempt).peers = s.peers ∧ (s.nextAttempt).sched = s.sched ∧
    (s.nextAttempt).intake = s.intake ∧ (s.nextAttempt).detector = s.detector ∧ (s.nextAttempt).co = s.co ∧
    (s.nextAttempt).alerts = s.alerts ∧ (s.nextAttempt).service = s.service ∧ (s.nextAttempt).free = s.free ∧
    (s.nextAttempt).pending = s.pending := by
  simp only [State.nextAttempt]
  (repeat' split) <;> simp

@[simp] theorem State.failAttempt_frame (n : Nat) :
    (s.failAttempt n).pins = s.pins ∧ (s.failAttempt n).clock = s.clock ∧ (s.failAttempt n).trunk = s.trunk ∧
    (s.failAttempt n).peers = s.peers ∧ (s.failAttempt n).sched = s.sched ∧ (s.failAttempt n).intake = s.intake ∧
    (s.failAttempt n).detector = s.detector ∧ (s.failAttempt n).co = s.co ∧ (s.failAttempt n).alerts = s.alerts ∧
    (s.failAttempt n).battery = s.battery ∧ (s.failAttempt n).heater = s.heater ∧
    (s.failAttempt n).service = s.service ∧ (s.failAttempt n).free = s.free ∧ (s.failAttempt n).pending = s.pending := by
  simp only [State.failAttempt]
  (repeat' split) <;> simp

@[simp] theorem State.finishAbort_frame :
    (s.finishAbort).pins = s.pins ∧ (s.finishAbort).peers = s.peers ∧ (s.finishAbort).sched = s.sched ∧
    (s.finishAbort).intake = s.intake ∧ (s.finishAbort).detector = s.detector ∧ (s.finishAbort).co = s.co ∧
    (s.finishAbort).alerts = s.alerts ∧ (s.finishAbort).service = s.service ∧ (s.finishAbort).free = s.free ∧
    (s.finishAbort).pending = s.pending := by
  simp only [State.finishAbort]
  (repeat' split) <;> simp

@[simp] theorem State.endAttempt_frame (n : Nat) (x : ProfileEnd) :
    (s.endAttempt n x).pins = s.pins ∧ (s.endAttempt n x).peers = s.peers ∧ (s.endAttempt n x).sched = s.sched ∧
    (s.endAttempt n x).intake = s.intake ∧ (s.endAttempt n x).detector = s.detector ∧
    (s.endAttempt n x).co = s.co ∧ (s.endAttempt n x).alerts = s.alerts ∧ (s.endAttempt n x).service = s.service ∧
    (s.endAttempt n x).pending = s.pending := by
  simp only [State.endAttempt]
  (repeat' split) <;> simp

/-- A stop, and nothing else that ends an attempt, moves the counter of the free values. -/
@[simp] theorem State.endAttempt_free (n : Nat) :
    (∀ bytes, (s.endAttempt n (.stopped bytes)).free = s.free + 1) ∧
    (∀ k, (s.endAttempt n (.notAcknowledged k)).free = s.free) ∧ (s.endAttempt n .heldLow).free = s.free := by
  refine ⟨fun bytes => ?_, fun k => ?_, ?_⟩ <;> simp only [State.endAttempt]
  · split <;> simp
  · simp
  · simp

/-- What it takes for a command to end an attempt of the profile read, and at which cycles each result falls (R189). -/
theorem State.attemptEnded_eq_true (result : ProfileEnd) : s.attemptEnded result = true ↔
    ∃ n, s.loader.phase = .loading ∧ s.loader.bus = .reading n ∧ attemptEndsAt n result = true := by
  rcases hb : s.loader.bus <;> by_cases hp : s.loader.phase = .loading <;>
    simp [State.attemptEnded, State.attemptCycles, hb, hp]

theorem attemptEndsAt_stopped (n : Nat) (bytes : Vector Byte 48) :
    attemptEndsAt n (.stopped bytes) = true ↔ n = 46200 := by
  simp only [attemptEndsAt, decide_eq_true_eq]; rfl

theorem attemptEndsAt_notAcknowledged (n k : Nat) : attemptEndsAt n (.notAcknowledged k) = true ↔
    k = 0 ∧ n = 975 ∨ k = 1 ∧ n = 1875 ∨ k = 2 ∧ n = 2875 := by
  rcases k with _ | _ | _ | k <;> simp [attemptEndsAt, acknowledgePeriods] <;> omega

theorem attemptEndsAt_heldLow (n : Nat) :
    attemptEndsAt n .heldLow = true ↔ n = 75 ∨ n = 1975 ∨ n = 46200 := by
  simp only [attemptEndsAt, Bool.or_eq_true, decide_eq_true_eq, or_assoc]; rfl

@[simp] theorem State.setHatch_frame (b : Bool) :
    (s.setHatch b).clock = s.clock ∧ (s.setHatch b).trunk = s.trunk ∧ (s.setHatch b).peers = s.peers ∧
    (s.setHatch b).sched = s.sched ∧ (s.setHatch b).intake = s.intake ∧ (s.setHatch b).detector = s.detector ∧
    (s.setHatch b).co = s.co ∧ (s.setHatch b).alerts = s.alerts ∧ (s.setHatch b).battery = s.battery ∧
    (s.setHatch b).heater = s.heater ∧ (s.setHatch b).service = s.service ∧ (s.setHatch b).free = s.free ∧
    (s.setHatch b).pending = s.pending := by
  simp only [State.setHatch]
  (repeat' split) <;> simp

end Sys2Proof.Machine
end

