-- ==== Sys2Proof/Laws/Ops.lean ====
section
/-! SUPPORT. What the shared operations do, said once for each. -/

namespace Sys2Proof.Machine

variable (s : State)

/-! ### The scheduler -/

/-- A request that leaves writes its history record and changes nothing else of the scheduler. -/
@[simp] theorem State.leave_sched (k : TxKind) (r : Request) (o : SendOutcome) :
    (s.leave k r o).sched = { s.sched with
      history := ((⟨k, r.time, r.capture, r.attempts, o⟩ : HistoryRecord) :: s.sched.history).take 8 } := by
  simp [State.leave]

/-- What a returning frame becomes, the tests in their order. -/
theorem State.returned_eq (k : TxKind) (f : Request) (w : Option Request) (lost : Bool) :
    s.sched.slots.get k = .inFlight f w → s.returned k lost =
      (fun r : Request => if r.mark then (s.setSlot k (slotAfter w)).leave k r .withdrawn
        else match w with
          | some next => (s.setSlot k (.ready next)).leave k r .superseded
          | none => if r.expired s.now then (s.setSlot k .empty).leave k r .expired else s.setSlot k (.ready r))
      (if lost then { f with attempts := min (f.attempts + 1) 255 } else f) := by
  intro h
  cases w <;> simp only [State.returned, h]

/-- A request to an empty slot makes it READY. -/
theorem State.request_of_empty (k : TxKind) (body : List Byte) (ref : Ref) (time : Time) (deadline : Option Time)
    (h : s.sched.slots.get k = .empty) :
    s.request k body ref time deadline = s.setSlot k (.ready ⟨body, ref, time, deadline, 0, none, false⟩) := by
  simp only [State.request, h]

/-- A report touches only what belongs to the kind of its request. -/
theorem State.report_other (k : TxKind) (ref : Ref) (o : SendOutcome) :
    (k ≠ .heat → (s.report k ref o).heater = s.heater) ∧ (k ≠ .reply → (s.report k ref o).service = s.service) ∧
    (k ≠ .onset → k ≠ .coda → (s.report k ref o).detector = s.detector) ∧
    (k ≠ .alert → k ≠ .alertRaise → (s.report k ref o).co = s.co ∧ (s.report k ref o).alerts = s.alerts) := by
  refine ⟨fun h => ?_, fun h => ?_, fun h1 h2 => ?_, fun h1 h2 => ?_⟩ <;> cases k <;> cases ref <;>
    simp_all [State.report]

/-- A leaving request touches only what belongs to its kind. -/
theorem State.leave_other (k : TxKind) (r : Request) (o : SendOutcome) :
    (k ≠ .heat → (s.leave k r o).heater = s.heater) ∧ (k ≠ .reply → (s.leave k r o).service = s.service) ∧
    (k ≠ .onset → k ≠ .coda → (s.leave k r o).detector = s.detector) ∧
    (k ≠ .alert → k ≠ .alertRaise → (s.leave k r o).co = s.co ∧ (s.leave k r o).alerts = s.alerts) := by
  have h := State.report_other { s with sched := { s.sched with
    history := ((⟨k, r.time, r.capture, r.attempts, o⟩ : HistoryRecord) :: s.sched.history).take 8 } } k r.ref o
  exact h

/-- A request touches only what belongs to its kind. -/
theorem State.request_other (k : TxKind) (body : List Byte) (ref : Ref) (time : Time) (deadline : Option Time) :
    (k ≠ .heat → (s.request k body ref time deadline).heater = s.heater) ∧
    (k ≠ .reply → (s.request k body ref time deadline).service = s.service) ∧
    (k ≠ .onset → k ≠ .coda → (s.request k body ref time deadline).detector = s.detector) ∧
    (k ≠ .alert → k ≠ .alertRaise →
      (s.request k body ref time deadline).co = s.co ∧ (s.request k body ref time deadline).alerts = s.alerts) := by
  unfold State.request
  split
  · simp
  · exact State.leave_other _ _ _ _
  · simp
  · exact State.leave_other _ _ _ _

/-! ### The heater controller's notices -/

/-- The TRIGGERED flag stands as the notice says. -/
@[simp] theorem State.noticeTriggered_triggered (on : Bool) : (s.noticeTriggered on).heater.triggered = on := by
  unfold State.noticeTriggered
  split
  · assumption
  · cases on <;> simp only [State.holdOnSet, State.holdOnClear, State.followHeaters] <;> (repeat' split) <;> simp_all

/-- The event-open flag stands as the notice says. -/
@[simp] theorem State.noticeEvent_eventOpen (on : Bool) : (s.noticeEvent on).heater.eventOpen = on := by
  unfold State.noticeEvent
  split
  · assumption
  · cases on <;> simp only [State.holdOnSet, State.holdOnClear, State.followHeaters] <;> (repeat' split) <;> simp_all

/-- A TRIGGERED notice leaves the event-open flag. -/
@[simp] theorem State.noticeTriggered_eventOpen (on : Bool) :
    (s.noticeTriggered on).heater.eventOpen = s.heater.eventOpen := by
  simp only [State.noticeTriggered, State.holdOnSet, State.holdOnClear, State.followHeaters]
  (repeat' split) <;> simp_all

/-- An event notice leaves the TRIGGERED flag. -/
@[simp] theorem State.noticeEvent_triggered (on : Bool) :
    (s.noticeEvent on).heater.triggered = s.heater.triggered := by
  simp only [State.noticeEvent, State.holdOnSet, State.holdOnClear, State.followHeaters]
  (repeat' split) <;> simp_all

/-- The quiet hold after a TRIGGERED notice. -/
theorem State.noticeTriggered_hold : (s.noticeTriggered true).heater.hold =
    if s.heater.triggered = false ∧ s.heater.hold = .idle then .holding s.clock.time else s.heater.hold := by
  unfold State.noticeTriggered
  cases ht : s.heater.triggered <;> cases hh : s.heater.hold <;> simp [State.holdOnSet, State.followHeaters, ht, hh]

/-- The quiet hold after the notice that the detector has left TRIGGERED. -/
theorem State.noticeTriggered_release : (s.noticeTriggered false).heater.hold =
    if s.heater.triggered = true ∧ s.heater.eventOpen = false then .idle else s.heater.hold := by
  unfold State.noticeTriggered
  cases ht : s.heater.triggered <;> cases hh : s.heater.eventOpen <;> simp [State.holdOnClear, State.followHeaters, ht, hh]

/-- The quiet hold after an *event open* notice. -/
theorem State.noticeEvent_hold : (s.noticeEvent true).heater.hold =
    if s.heater.eventOpen = false ∧ s.heater.hold = .idle then .holding s.clock.time else s.heater.hold := by
  unfold State.noticeEvent
  cases ht : s.heater.eventOpen <;> cases hh : s.heater.hold <;> simp [State.holdOnSet, State.followHeaters, ht, hh]

/-- The quiet hold after a *no event open* notice. -/
theorem State.noticeEvent_release : (s.noticeEvent false).heater.hold =
    if s.heater.eventOpen = true ∧ s.heater.triggered = false then .idle else s.heater.hold := by
  unfold State.noticeEvent
  cases ht : s.heater.eventOpen <;> cases hh : s.heater.triggered <;> simp [State.holdOnClear, State.followHeaters, ht, hh]

/-! ### The battery monitor's tests -/

/-- The stage tests of a reading outside SHED. -/
theorem State.stageTests_of_not_shed (h : s.battery.stage ≠ .shed) : s.stageTests =
    if 10 ≤ lowCount s.profile s.battery.voltage s.battery.low
    then s.mapBattery (fun b => { b with
      testsDue := false, low := lowCount s.profile s.battery.voltage s.battery.low })
    else (s.mapBattery (fun b => { b with
      testsDue := false, low := lowCount s.profile s.battery.voltage s.battery.low })).applySocTest := by
  cases hs : s.battery.stage
  case shed => exact absurd hs h
  all_goals simp only [State.stageTests, State.mapBattery, hs]

/-- The stage tests of a reading in SHED. -/
theorem State.stageTests_of_shed (h : s.battery.stage = .shed) : s.stageTests =
    if 60 ≤ recoveryCount s.profile s.battery.voltage s.battery.recovery
    then s.mapBattery (fun b => { b with
      testsDue := false, recovery := recoveryCount s.profile s.battery.voltage s.battery.recovery })
    else (s.mapBattery (fun b => { b with
      testsDue := false, recovery := recoveryCount s.profile s.battery.voltage s.battery.recovery })).setCharge := by
  simp only [State.stageTests, State.mapBattery, h]

/-- What the SoC test leaves of the battery monitor. -/
theorem State.applySocTest_battery : s.applySocTest.battery = { s.battery with
    stage := socTest s.battery.stage s.soc
    chgen := (s.mapBattery (fun b => { b with stage := socTest s.battery.stage s.soc })).chargeAllowed
    counters := { s.battery.counters with
      stageChanges := if socTest s.battery.stage s.soc = s.battery.stage then s.battery.counters.stageChanges
        else min (s.battery.counters.stageChanges + 1) 65535 } } := by
  simp only [State.applySocTest]
  split
  · rename_i h; simp [State.setCharge, h]; rfl
  · simp [State.changeStage, State.setCharge, bump16]; rfl

/-! ### The detector -/

/-- An average after a set, as a number that the floor rounds. -/
theorem average_eq (a c n : Nat) : ((average a c n : Nat) : Int) = (a : Int) + ((c : Int) * 256 - (a : Int)) / 2 ^ n := by
  unfold average
  rw [Int.toNat_of_nonneg]
  have h2 : (0 : Int) < 2 ^ n := by positivity
  have : -(a : Int) ≤ ((c : Int) * 256 - (a : Int)) / 2 ^ n := by
    rw [Int.le_ediv_iff_mul_le h2]
    have : (1 : Int) ≤ 2 ^ n := by exact_mod_cast Nat.one_le_two_pow
    nlinarith
  omega

/-- A set handed to a running detector that is not halted: the arithmetic, then the state's action. -/
theorem State.handSet_of_running (x : Delivered) (b : Bool) (h1 : s.intake.state = .running)
    (h2 : s.battery.stage ≠ .shed) (h3 : s.detector.state ≠ .halted) :
    s.handSet x b = (fun (d : Detector) (c : Nat) =>
        ({ s with detector := d.updateAverages s.profile c } : State).actOnSet x.stamp b c)
      (s.detector.updateDc s.profile x.values)
      ((s.detector.updateDc s.profile x.values).characteristic s.profile x.values) := by
  have rc : s.runCondition = true := by simp [State.runCondition, h1, h2]
  simp only [State.handSet, rc, if_true]
  cases hx : s.detector.state
  · exact absurd hx h3
  all_goals simp only [State.processSet]

/-! ### The peer table -/

/-- What taking an entry does, by the filter. -/
theorem State.inbound_eq (e : InEntry) (rest : List InEntry) (f : InEntry → State → State)
    (h : s.peers.queue = e :: rest) : s.inbound f =
    match filterEntry s.own s.profile.peerSet e with
    | .conflict => ((s.mapPeers (fun p => { p with queue := rest })).mapLink
        (fun c => { c with conflicts := c.conflicts.increase })).raiseConflict
    | .discard => s.mapPeers (fun p => { p with queue := rest })
    | .outside => (s.mapPeers (fun p => { p with queue := rest })).mapPeers
        (fun p => { p with counters := { p.counters with outside := bump16 p.counters.outside } })
    | .applies => f e (s.mapPeers (fun p => { p with queue := rest })) := by
  simp only [State.inbound, h]; rfl

/-- The table is ready for the oldest entry's own kind. -/
theorem State.entryReady_of (e : InEntry) (rest : List InEntry) (h1 : s.loader.phase = .running)
    (h2 : s.peers.hand = none) (h3 : s.peers.queue = e :: rest) : s.entryReady e.kind = true := by
  simp [State.entryReady, State.isRunning, h1, h2, h3]

/-! ### Station time -/

/-- A second of station time moved by a whole number of seconds. -/
theorem Time.add_seconds (t : Time) (x : BitVec 32) (h : t.sub < 10000000) :
    t.add (secondCycles * x.toInt) = ⟨t.sec + x, t.sub⟩ := by
  have hx : x.toInt = (x.toNat : Int) ∨ x.toInt = (x.toNat : Int) - 4294967296 := by
    rw [BitVec.toInt_eq_toNat_cond]; split <;> simp
  simp only [Time.add, Time.cycles, wrapCycles, secondCycles, Time.ofCycles]
  have hn : (((↑((10000000 : Nat) * t.sec.toNat + t.sub) : Int) + (10000000 : Nat) * x.toInt)
      % (((4294967296 * 10000000 : Nat)) : Int)).toNat
      = 10000000 * ((t.sec.toNat + x.toNat) % 4294967296) + t.sub := by
    have := t.sec.isLt; have := x.isLt
    rcases hx with hx | hx <;> rw [hx] <;> push_cast <;> omega
  rw [hn]
  congr 1
  · apply BitVec.eq_of_toNat_eq
    simp; omega
  · omega

/-- A moved stamp lies inside a second. -/
theorem Time.add_sub_lt (t : Time) (x : Int) : (t.add x).sub < 10000000 := by
  simp only [Time.add, Time.ofCycles, secondCycles]; omega

/-! ### The read-back of a character -/

/-- Equal bit times are passed over, and what the rest shows is the answer. -/
theorem readBackFrom_skip (level : Nat → Bool) (w : BitVec 169) (k m n : Nat)
    (h : ∀ j, j < m → sampleAt w (k + j) 8 = level (k + j)) :
    readBackFrom level w k (m + n) = readBackFrom level w (k + m) n := by
  induction m generalizing k with
  | zero => simp
  | succ m ih =>
    have h0 := h 0 (by omega)
    have hs : ∀ j, j < m → sampleAt w (k + 1 + j) 8 = level (k + 1 + j) := fun j hj => by
      have := h (j + 1) (by omega)
      rwa [show k + (j + 1) = k + 1 + j by omega] at this
    rw [show m + 1 + n = (m + n) + 1 by omega, readBackFrom, show sampleAt w k 8 = level k from h0,
      show k + (m + 1) = k + 1 + m by omega, ← ih (k + 1) hs]
    cases level k <;> rfl

/-- Where every bit time reads as it was sent, the read-back is equal. -/
theorem readBackFrom_equal (level : Nat → Bool) (w : BitVec 169) (n : Nat)
    (h : ∀ j, j < n → sampleAt w j 8 = level j) : readBackFrom level w 0 n = .equal := by
  have := readBackFrom_skip level w 0 n 0 (fun j hj => by simpa using h j hj)
  simpa [readBackFrom] using this

/-- The first bit time that reads otherwise than it was sent decides. -/
theorem readBackFrom_first (level : Nat → Bool) (w : BitVec 169) (k n : Nat) (hk : k < n)
    (h : ∀ j, j < k → sampleAt w j 8 = level j) (hu : sampleAt w k 8 ≠ level k) :
    readBackFrom level w 0 n = if level k then .lost else .failed := by
  have := readBackFrom_skip level w 0 k (n - k - 1 + 1) (fun j hj => by simpa using h j hj)
  rw [show k + (n - k - 1 + 1) = n by omega] at this
  rw [this, Nat.zero_add, readBackFrom]
  cases hl : level k <;> cases hs : sampleAt w k 8 <;> simp_all [readBack]

/-- Whatever the read-back shows, `readCharacter` takes the drive fault, the loss with its character, or the character. -/
theorem State.readCharacter_eq (w : BitVec 169) : s.readCharacter w =
    if s.characterReadBack w = .failed then s.faultDrive
    else if s.characterReadBack w = .lost then s.loseArbitration.receiveCharacter w
    else if isGlitch w then s.mapTrunk Trunk.dropGlitch else s.receiveCharacter w := by
  unfold State.readCharacter
  split <;> simp_all

end Sys2Proof.Machine
end

