-- ==== Sys2Proof/Laws/Battery.lean ====
section
/-! SUPPORT. What the stage tests of a reading, the allocation of a stage notice and the halt leave (R101, R164 to R169,
R181). -/

namespace Sys2Proof.Machine

variable (s : State)

/-! ### The tests -/

/-- The SoC test never enters SHED. -/
theorem socTest_ne_shed (x : Stage) (soc : Nat) (h : x ≠ .shed) : socTest x soc ≠ .shed := by
  cases x <;> simp_all [socTest] <;> (repeat' split) <;> simp

/-- When CHGEN's condition holds. -/
theorem State.chargeAllowed_iff : s.chargeAllowed = true ↔ s.battery.batteryFault = false ∧ s.battery.stage ≠ .shed ∧
    ∃ x, s.battery.batteryTemp = some x ∧ s.profile.chargeMin ≤ x ∧ x ≤ s.profile.chargeMax := by
  simp only [State.chargeAllowed, usableTemp]
  cases s.battery.batteryFault <;> cases s.battery.batteryTemp <;> simp
  tauto

/-- What the stage tests leave of the battery monitor. -/
theorem State.stageTests_battery : s.stageTests.battery = { s.battery with
    low := s.stageTests.battery.low, recovery := s.stageTests.battery.recovery, stage := s.stageTests.battery.stage
    testsDue := false, chgen := s.stageTests.battery.chgen
    counters := { s.battery.counters with
      stageChanges := if s.stageTests.battery.stage = s.battery.stage then s.battery.counters.stageChanges
        else min (s.battery.counters.stageChanges + 1) 65535 } } := by
  by_cases h : s.battery.stage = .shed
  · rw [State.stageTests_of_shed s h]
    split <;> simp [State.mapBattery, State.setCharge]
  · rw [State.stageTests_of_not_shed s h]
    split
    · simp [State.mapBattery]
    · rw [State.applySocTest_battery]; rfl

/-- The heater controller after the stage tests: allocated again where the stage has changed, else as it was. -/
theorem State.stageTests_heater : s.stageTests.heater =
    if s.stageTests.battery.stage = s.battery.stage then s.heater
    else ({ s with battery := s.stageTests.battery } : State).allocate.heater := by
  by_cases h : s.battery.stage = .shed
  · rw [State.stageTests_of_shed s h]
    split <;> simp [State.mapBattery, State.setCharge]
  · rw [State.stageTests_of_not_shed s h]
    split
    · simp [State.mapBattery]
    · simp only [State.applySocTest]
      split <;> rename_i h2
      · simp_all [State.mapBattery, State.setCharge]
      · rw [if_neg (fun h3 => h2 (by simpa [State.changeStage, State.setCharge, State.mapBattery] using h3))]
        simp [State.changeStage, State.setCharge, State.mapBattery]

/-! ### The notices of a stage change -/

/-- An allocation leaves the demand, the hold, the flags and the announcements of the heater controller. -/
theorem State.allocate_heater : s.allocate.heater = { s.heater with
    U := s.allocate.heater.U, Nh := s.allocate.heater.Nh, budget := s.allocate.heater.budget, G := s.allocate.heater.G
    grant0 := s.allocate.heater.grant0, grant1 := s.allocate.heater.grant1, steps0 := s.allocate.heater.steps0
    steps1 := s.allocate.heater.steps1, out0 := s.allocate.heater.out0, out1 := s.allocate.heater.out1 } := by
  simp [State.allocate, State.followHeaters]

/-- A halt leaves the detector HALTED, whatever it was. -/
@[simp] theorem State.halt_state : s.halt.detector.state = .halted := by
  unfold State.halt; dsimp only; split <;> simp [State.mapDetector]

end Sys2Proof.Machine
end

