-- ==== Sys2Proof/Laws/Exec.lean ====
section
/-! SUPPORT. What each command is: its conditions and its effect, or the limit step it takes. -/

namespace Sys2Proof.Machine

variable (s : State)

theorem exec_powerOnReset : exec (.powerOnReset) s =
    carryOut (fun _ => true) State.powerOn s := rfl

theorem exec_pinReset : exec (.pinReset) s =
    carryOut (fun _ => true) State.resetPin s := rfl

theorem exec_resetRelease (stn : BitVec 4) (fast hatchOpen : Bool) : exec (.resetRelease stn fast hatchOpen) s =
    carryOut (fun s => !s.isReleased) (fun s => s.releaseReset stn fast hatchOpen) s := rfl

theorem exec_profileReadAttempt : exec (.profileReadAttempt) s =
    carryOut State.attemptDue
    (fun s => s.mapLoader (fun l => { l with bus := .reading 0, attempts := l.attempts + 1 })) s := rfl

theorem exec_profileAttemptEnd (result : ProfileEnd) : exec (.profileAttemptEnd result) s =
    carryOut (fun s => s.attemptEnded result) (fun s => s.endAttempt (s.attemptCycles.getD 0) result) s := rfl

theorem exec_profileAttemptTimeout : exec (.profileAttemptTimeout) s =
    carryOut (fun s => decide (tickCycles ≤ s.attemptCycles.getD 0))
    (fun s => s.failAttempt (s.attemptCycles.getD 0)) s := rfl

theorem exec_secondBoundaryEvent (inputs : Readings) : exec (.secondBoundaryEvent inputs) s =
    carryOut (fun s => s.isReleased && s.boundary.isSome) (fun s => s.boundaryEvent inputs) s := rfl

theorem exec_ppsEdge : exec (.ppsEdge) s =
    carryOut State.isRunning (fun s => s.mapClock Clock.takeEdge) s := rfl

theorem exec_edgeMissing : exec (.edgeMissing) s =
    carryOut (fun s => s.isRunning && s.edgeOverdue) (fun s => s.mapClock Clock.edgeMissing) s := rfl

theorem exec_refrxCharacter (data : Byte) (stop : Bool) : exec (.refrxCharacter data stop) s =
    carryOut State.isRunning (fun s => s.refCharacter data stop) s := rfl

theorem exec_refrxGapTimeout : exec (.refrxGapTimeout) s =
    carryOut (fun s => s.isRunning && s.recordGap 50000) (fun s => s.mapClock Clock.badRecord) s := rfl

theorem exec_outlierLimit : exec (.outlierLimit) s =
    takeLimit .outlier s := rfl

theorem exec_referenceEvaluation : exec (.referenceEvaluation) s =
    takeLimit .evaluation s := rfl

theorem exec_referenceReturn : exec (.referenceReturn) s =
    takeLimit .refReturn s := rfl

theorem exec_referenceLoss : exec (.referenceLoss) s =
    carryOut (fun s => s.isRunning && s.lossPeriodOver)
    (fun s => (s.mapClock (fun c => { c with lossStart := none })).loseReference) s := rfl

theorem exec_consecutiveMissingLimit : exec (.consecutiveMissingLimit) s =
    takeLimit .missing s := rfl

theorem exec_holdoverAgeLimit : exec (.holdoverAgeLimit) s =
    takeLimit .age s := rfl

theorem exec_peerEvaluation : exec (.peerEvaluation) s =
    carryOut (fun s => s.isRunning && s.peerEvaluationDue) State.evaluatePeers s := rfl

theorem exec_characterReceived (samples : BitVec 169) : exec (.characterReceived samples) s =
    carryOut (fun s => s.trunk.receiver.inside) (fun s => s.readCharacter samples) s := rfl

theorem exec_lineIdle : exec (.lineIdle) s =
    carryOut State.idleReached State.lineBecomesIdle s := rfl

theorem exec_lineFault : exec (.lineFault) s =
    carryOut State.faultReached (fun s => s.mapTrunk Trunk.lineFault) s := rfl

theorem exec_choice : exec (.choice) s =
    carryOut State.choiceDue State.choose s := rfl

theorem exec_txStart : exec (.txStart) s =
    carryOut State.startReached State.startSending s := rfl

theorem exec_arbitrationLoss : exec (.arbitrationLoss) s =
    carryOut (fun s => s.atReadBack && !s.sendsDominant) State.loseArbitration s := rfl

theorem exec_driveFault : exec (.driveFault) s =
    carryOut (fun s => s.atReadBack && s.sendsDominant) State.faultDrive s := rfl

theorem exec_inboundBeacon : exec (.inboundBeacon) s =
    carryOut (fun s => s.entryReady .beacon) (fun s => s.inbound State.applyBeacon) s := rfl

theorem exec_inboundOnset : exec (.inboundOnset) s =
    carryOut (fun s => s.entryReady .onset) (fun s => s.inbound State.applyOnset) s := rfl

theorem exec_inboundCoda : exec (.inboundCoda) s =
    carryOut (fun s => s.entryReady .coda) (fun s => s.inbound State.applyCoda) s := rfl

theorem exec_inboundHeat : exec (.inboundHeat) s =
    carryOut (fun s => s.entryReady .heat) (fun s => s.inbound State.applyHeat) s := rfl

theorem exec_inboundAlert : exec (.inboundAlert) s =
    carryOut (fun s => s.entryReady .alert) (fun s => s.inbound State.applyAlert) s := rfl

theorem exec_inboundAlertRaise : exec (.inboundAlertRaise) s =
    carryOut (fun s => s.entryReady .alertRaise) (fun s => s.inbound State.applyRaise) s := rfl

theorem exec_inboundQuery : exec (.inboundQuery) s =
    carryOut (fun s => s.entryReady .query) (fun s => s.inbound State.applyQuery) s := rfl

theorem exec_inboundReply : exec (.inboundReply) s =
    carryOut (fun s => s.entryReady .reply) (fun s => s.inbound (fun _ s => s)) s := rfl

theorem exec_stationConflictExpiry : exec (.stationConflictExpiry) s =
    takeLimit .conflict s := rfl

theorem exec_timePartAgeOut (row : Station) : exec (.timePartAgeOut row) s =
    takeLimit (.timePart row) s := rfl

theorem exec_heatPartAgeOut (row : Station) : exec (.heatPartAgeOut row) s =
    takeLimit (.heatPart row) s := rfl

theorem exec_triggerPartAgeOut (row : Station) : exec (.triggerPartAgeOut row) s =
    takeLimit (.triggerPart row) s := rfl

theorem exec_requestDeadline (kind : DeadlineKind) : exec (.requestDeadline kind) s =
    carryOut (fun s => s.deadlineDue kind) (fun s => s.expire (deadlineSlot kind)) s := rfl

theorem exec_beaconCandidatePoint : exec (.beaconCandidatePoint) s =
    carryOut (fun s => s.candidatePoint.isSome) State.takeCandidate s := rfl

theorem exec_portFrameOpen : exec (.portFrameOpen) s =
    carryOut (fun s => s.portOpen && s.intake.frame.isNone) (fun s => s.mapIntake (fun i => { i with frame := some 0 })) s := rfl

theorem exec_setArrival (bits : BitVec 72) : exec (.setArrival bits) s =
    carryOut State.setExpected (fun s => s.arrive bits) s := rfl

theorem exec_portFrameClose : exec (.portFrameClose) s =
    carryOut (fun s => s.portOpen && s.intake.frame.isSome) (fun s => s.mapIntake Intake.closeFrame) s := rfl

theorem exec_tick : exec (.tick) s =
    carryOut (fun s => s.tickDue.isSome) (fun s => s.tick (s.tickDue.getD s.now)) s := rfl

theorem exec_stall : exec (.stall) s =
    takeLimit .stall s := rfl

theorem exec_warmupEnd : exec (.warmupEnd) s =
    takeLimit .warmup s := rfl

theorem exec_forcedEnd : exec (.forcedEnd) s =
    takeLimit .forced s := rfl

theorem exec_holdoffEnd : exec (.holdoffEnd) s =
    takeLimit .holdoff s := rfl

theorem exec_vote : exec (.vote) s =
    carryOut (fun s => s.requestReady .vote)
    (fun s => match s.nextRequest with
      | some (.vote source n onset) => (s.popRequest.takeVote n onset).doneFor source
      | _ => s) s := rfl

theorem exec_heardAlert : exec (.heardAlert) s =
    carryOut (fun s => s.requestReady .heardAlert)
    (fun s => match s.nextRequest with
      | some (.heardAlert _ body) => (s.popRequest.hearAlert body).release
      | _ => s) s := rfl

theorem exec_heardAlertRaise : exec (.heardAlertRaise) s =
    carryOut (fun s => s.requestReady .heardAlertRaise)
    (fun s => match s.nextRequest with
      | some (.heardRaise _ body) => (s.popRequest.hearRaise body).release
      | _ => s) s := rfl

theorem exec_peakRequest : exec (.peakRequest) s =
    carryOut (fun s => s.requestReady .peakRequest)
    (fun s => match s.nextRequest with
      | some (.peak source n onset peak) => (s.popRequest.takePeak n onset peak).doneFor source
      | _ => s) s := rfl

theorem exec_eventClosingTime : exec (.eventClosingTime) s =
    carryOut (fun s => s.isRunning && s.closingDue.isSome)
    (fun s => match s.closingDue with
      | some serial => s.askCo (.closing serial)
      | none => s) s := rfl

theorem exec_closingExpiry : exec (.closingExpiry) s =
    carryOut (fun s => s.requestReady .closingExpiry)
    (fun s => match s.nextRequest with
      | some (.closing serial) => s.popRequest.takeClosing serial
      | _ => s) s := rfl

theorem exec_raiseSent : exec (.raiseSent) s =
    carryOut (fun s => s.requestReady .raiseSent)
    (fun s => match s.nextRequest with
      | some (.raiseSent serial) => s.popRequest.takeRaiseSent serial
      | _ => s) s := rfl

theorem exec_deferenceExpiry : exec (.deferenceExpiry) s =
    carryOut (fun s => s.isRunning && s.deferenceReached) State.expireDeference s := rfl

theorem exec_annunciatorSlot : exec (.annunciatorSlot) s =
    carryOut (fun s => s.isRunning && s.slotDue.isSome) (fun s => s.nextSlot (s.slotDue.getD s.now)) s := rfl

theorem exec_fullResync : exec (.fullResync) s =
    takeLimit .resync s := rfl

theorem exec_shedEntry : exec (.shedEntry) s =
    takeLimit .shedEntry s := rfl

theorem exec_shedExit : exec (.shedExit) s =
    takeLimit .shedExit s := rfl

theorem exec_computation : exec (.computation) s =
    carryOut (fun s => s.isRunning && s.heater.computationDue) State.compute s := rfl

theorem exec_announcementPoint : exec (.announcementPoint) s =
    carryOut (fun s => s.announcementDue.isSome)
    (fun s => ({ s with heater := { s.heater with lastPoint := s.announcementDue } }).requestHeat) s := rfl

theorem exec_holdLimit : exec (.holdLimit) s =
    carryOut State.holdLimitReached State.limitHold s := rfl

theorem exec_heaterWindowEdge : exec (.heaterWindowEdge) s =
    carryOut State.isRunning State.followHeaters s := rfl

theorem exec_filteredStateChange : exec (.filteredStateChange) s =
    carryOut State.hatchDue (fun s => s.mapLoader (fun l => l.followHatch s.pins.hatch)) s := rfl

theorem exec_disturbedTimerExpiry : exec (.disturbedTimerExpiry) s =
    takeLimit .disturbed s := rfl

theorem exec_fallingEdge : exec (.fallingEdge) s =
    carryOut (fun s => s.isReleased && !s.trunk.receiver.inside) (fun s => s.mapTrunk (fun t => t.fallingEdge s.now)) s := rfl

theorem exec_glitch : exec (.glitch) s =
    carryOut (fun s => s.trunk.receiver.inside) State.takeGlitch s := rfl

theorem exec_receiverHuntsAgain : exec (.receiverHuntsAgain) s =
    carryOut State.mayRise (fun s => s.mapTrunk Trunk.rise) s := rfl

theorem exec_hatchLevelChange (hatchOpen : Bool) : exec (.hatchLevelChange hatchOpen) s =
    carryOut (fun _ => true) (fun s => s.setHatch hatchOpen) s := rfl

end Sys2Proof.Machine
end

