-- ==== Sys2Proof/Laws/Steering.lean ====
section
/-! SUPPORT. The median, the sources and the re-examination of the clock, in the terms of Safety. -/

namespace Sys2Proof.Machine

variable (s : State)

/-! ### The median (R19) -/

/-- Insertion keeps the elements. -/
theorem insertOffset_perm (x : Int) (l : List Int) : (insertOffset x l).Perm (x :: l) := by
  induction l with
  | nil => exact .refl _
  | cons y ys ih =>
    unfold insertOffset
    split
    · exact .refl _
    · exact (ih.cons y).trans (.swap x y ys)

/-- Sorting keeps the elements. -/
theorem sortOffsets_perm (l : List Int) : (sortOffsets l).Perm l := by
  induction l with
  | nil => exact .refl _
  | cons x xs ih => exact (insertOffset_perm x _).trans (ih.cons x)

/-- Insertion keeps the order. -/
theorem insertOffset_sorted (x : Int) (l : List Int) (h : l.Pairwise (· ≤ ·)) :
    (insertOffset x l).Pairwise (· ≤ ·) := by
  induction l with
  | nil => exact List.pairwise_singleton _ _
  | cons y ys ih =>
    have ⟨h1, h2⟩ := List.pairwise_cons.mp h
    unfold insertOffset
    split
    · rename_i hxy
      refine List.pairwise_cons.mpr ⟨fun z hz => ?_, h⟩
      rcases List.mem_cons.mp hz with rfl | hz
      · exact hxy
      · exact le_trans hxy (h1 z hz)
    · rename_i hxy
      refine List.pairwise_cons.mpr ⟨fun z hz => ?_, ih h2⟩
      rcases List.mem_cons.mp ((insertOffset_perm x ys).mem_iff.mp hz) with rfl | hz
      · omega
      · exact h1 z hz

/-- Sorting gives the order. -/
theorem sortOffsets_sorted (l : List Int) : (sortOffsets l).Pairwise (· ≤ ·) := by
  induction l with
  | nil => exact .nil
  | cons x xs ih => exact insertOffset_sorted x _ ih

/-- In an ascending list the element at an index has at most that many smaller ones, and more than that many not
greater. -/
theorem counts_of_sorted (l : List Int) (h : l.Pairwise (· ≤ ·)) (i : Nat) (hi : i < l.length) :
    l.countP (fun x => decide (x < l[i])) ≤ i ∧ i < l.countP (fun x => decide (x ≤ l[i])) := by
  induction l generalizing i with
  | nil => simp at hi
  | cons y ys ih =>
    have ⟨h1, h2⟩ := List.pairwise_cons.mp h
    cases i with
    | zero =>
      refine ⟨?_, ?_⟩
      · rw [Nat.le_zero, List.countP_eq_zero]
        intro a ha
        rcases List.mem_cons.mp ha with rfl | ha
        · simp
        · have := h1 a ha; simp; omega
      · simp
    | succ k =>
      have hk : k < ys.length := by simpa using hi
      have ⟨a, b⟩ := ih h2 k hk
      have hy : y ≤ ys[k] := h1 _ (List.getElem_mem hk)
      simp only [List.getElem_cons_succ, List.countP_cons]
      refine ⟨?_, ?_⟩
      · split <;> omega
      · simp [hy]; omega

/-- The median of a list that is not empty is one in the sense of R19. -/
theorem median_isMedian (l : List Int) (h : l ≠ []) : isMedian l (median l) := by
  have hl : 0 < l.length := List.length_pos_of_ne_nil h
  have hp := sortOffsets_perm l
  have hi : (l.length - 1) / 2 < (sortOffsets l).length := by rw [hp.length_eq]; omega
  have ⟨a, b⟩ := counts_of_sorted _ (sortOffsets_sorted l) _ hi
  have e : median l = (sortOffsets l)[(l.length - 1) / 2] := by simp [median, List.getD_eq_getElem?_getD, hi]
  rw [isMedian, e]
  exact ⟨hp.mem_iff.mp (List.getElem_mem hi), by rwa [hp.countP_eq] at a, by rwa [hp.countP_eq] at b⟩

/-- There is one median only. -/
theorem isMedian_unique (l : List Int) (a b : Int) (ha : isMedian l a) (hb : isMedian l b) : a = b := by
  have key : ∀ x y : Int, isMedian l x → isMedian l y → ¬ x < y := by
    intro x y hx hy hxy
    have : l.countP (fun z => decide (z ≤ x)) ≤ l.countP (fun z => decide (z < y)) :=
      List.countP_mono_left (fun z _ hz => by simp at hz ⊢; omega)
    have h1 := hx.2.2
    have h2 := hy.2.1
    omega
  have h1 := key a b ha hb
  have h2 := key b a hb ha
  omega

/-- The median of R19, named. -/
theorem median_eq (l : List Int) (m : Int) (h : isMedian l m) : l ≠ [] ∧ median l = m :=
  have hl : l ≠ [] := List.ne_nil_of_mem h.1
  ⟨hl, isMedian_unique l _ _ (median_isMedian l hl) h⟩

/-! ### Candidates and sources (R18) -/

/-- A class qualifies as the table says. -/
theorem qualifies_eq (a b : TimeClass) : qualifies a b = decide (b ∈ a.sources) := by cases a <;> cases b <;> rfl

/-- The candidates are the parts of the qualifying classes. -/
theorem State.candidates_eq : s.candidates = s.partsOf s.steering.sources := by
  simp only [State.candidates, State.partsOf, List.filterMap_filter]
  congr 1
  funext n
  by_cases h : n = s.loader.station
  · simp [h]
  · cases hp : (s.peers.row n).time with
    | none => simp [h]
    | some p => simp only [qualifies_eq, Option.filter]; simp [h]

/-- The sources' offsets are those of the qualifying classes. -/
theorem State.sourceOffsets_eq : s.sourceOffsets = s.offsetsOf s.steering.sources := by
  simp only [State.sourceOffsets, State.offsetsOf, State.candidates_eq]

/-! ### Re-examination (R18 to R21) -/

/-- An entry to PEER-STEERED does what R19 says. -/
theorem State.enterPeerSteered_peerEntry (m : Int) (h : isMedian s.sourceOffsets m) :
    s.peerEntry s.enterPeerSteered s.timeClass m := by
  obtain ⟨-, hm⟩ := median_eq _ _ h
  simp only [State.enterPeerSteered, hm, State.peerEntry]
  by_cases h2 : 2000 < m.natAbs
  · simp only [h2, if_true]
    refine ⟨rfl, rfl, rfl, rfl, rfl, rfl, fun h3 => absurd h2 (by omega), fun _ => ⟨rfl, rfl, rfl, rfl, rfl, fun v hv => by subst hv; rfl⟩⟩
  · simp only [h2, if_false]
    exact ⟨rfl, rfl, rfl, rfl, rfl, rfl, fun _ => rfl, fun h3 => absurd h3 (by simp)⟩

/-- A clock that may begin peer steering does as its sources say. -/
theorem State.considerSources_spec :
    (s.offsetsOf s.steering.sources = [] → s.considerSources = s) ∧
    (∀ m, isMedian (s.offsetsOf s.steering.sources) m → s.peerEntry s.considerSources s.timeClass m) := by
  rw [← State.sourceOffsets_eq]
  refine ⟨fun h => by simp [State.considerSources, h], fun m hm => ?_⟩
  have hl := (median_eq _ _ hm).1
  rw [State.considerSources, if_neg (by simpa using hl)]
  exact s.enterPeerSteered_peerEntry m hm

/-- The re-examination does what R18 to R21 say. -/
theorem State.reexamine_spec : s.reexamines s.reexamine := by
  refine ⟨fun h => ?_, fun c h => ?_, fun c h1 h2 h3 => ?_⟩
  · rcases h with h | h <;> simp [State.reexamine, h]
  · have e : s.steering = c ∧ s.timeClass = c ∧ s.reexamine = s.considerSources := by
      rcases h with ⟨h, rfl⟩ | ⟨h, rfl⟩ <;>
        simp [State.steering, State.timeClass, Clock.timeClass, State.reexamine, h]
    have := s.considerSources_spec
    rwa [e.1, e.2.1, ← e.2.2] at this
  · have e : s.steering = c := by simp [State.steering, h1, h2]
    have r : s.reexamine = s.considerCandidates := by simp [State.reexamine, h1]
    refine ⟨fun hc => ?_, fun hc hs => ?_, fun m hr hm => ?_⟩
    · rw [r, State.considerCandidates, State.candidates_eq, e, hc]
      simp only [List.isEmpty_nil, if_true, State.enterHoldover, State.mapClock, Clock.setSlew, Clock.refix]
      refine (State.considerSources_spec _).1 ?_
      simp only [State.steering, State.timeClass, Clock.timeClass, Bool.false_eq_true, if_false, State.offsetsOf]
      have : State.partsOf s TimeClass.t1.sources = [] := by
        simp only [State.partsOf, List.filterMap_eq_nil_iff] at hc ⊢
        intro n hn
        have := hc n hn
        rcases h3 with rfl | rfl | rfl
        · exact this
        all_goals
          split at this
          · rename_i hz; simp [hz]
          · rename_i hz
            simp only [hz, if_false]
            cases hp : (s.peers.row n).time <;> simp_all [TimeClass.sources, Option.filter]
      have e2 : ∀ x, State.partsOf { s with clock := x } TimeClass.t1.sources = [] := fun x => this
      simp [e2]
    · rw [r, State.considerCandidates, State.candidates_eq, State.sourceOffsets_eq, e]
      rcases hs with hs | hs <;> simp [hs, hc]
    · obtain ⟨hl, hmm⟩ := median_eq _ _ hm
      have hc : s.partsOf c.sources ≠ [] := fun h => hl (by simp [State.offsetsOf, h])
      rw [r, State.considerCandidates, State.candidates_eq, State.sourceOffsets_eq, e]
      simp [hr, hc, hl, hmm, State.mapClock]

end Sys2Proof.Machine
end

