-- ==== Sys2Proof/Laws/Store.lean ====
section
/-! SUPPORT. Which operations leave the number of sets in the elastic store. -/

namespace Sys2Proof.Machine

variable (s : State)

/-! ### The clock's operations: a step moves the stamps of the sets in the store (R91) -/

@[simp] theorem State.applyStep_store (x : Int) (c : StepCause) :
    (s.applyStep x c).intake.store.length = s.intake.store.length := by
  simp [State.applyStep, Intake.move]

@[simp] theorem State.enterPeerSteered_store : s.enterPeerSteered.intake.store.length = s.intake.store.length := by
  unfold State.enterPeerSteered; dsimp only; split <;> simp

@[simp] theorem State.considerSources_store : s.considerSources.intake.store.length = s.intake.store.length := by
  unfold State.considerSources; split <;> simp

@[simp] theorem State.enterHoldover_store : s.enterHoldover.intake.store.length = s.intake.store.length := by
  simp [State.enterHoldover]

@[simp] theorem State.considerCandidates_store :
    s.considerCandidates.intake.store.length = s.intake.store.length := by
  unfold State.considerCandidates; (repeat' split) <;> simp

@[simp] theorem State.reexamine_store : s.reexamine.intake.store.length = s.intake.store.length := by
  unfold State.reexamine; split <;> simp

@[simp] theorem State.evaluatePeers_store : s.evaluatePeers.intake.store.length = s.intake.store.length := by
  unfold State.evaluatePeers; dsimp only; (repeat' split) <;> simp

@[simp] theorem State.loseReference_store : s.loseReference.intake.store.length = s.intake.store.length := by
  unfold State.loseReference; dsimp only; split <;> simp

@[simp] theorem State.acquisition_store (t : Taken) :
    (s.acquisition t).intake.store.length = s.intake.store.length := by
  unfold State.acquisition; dsimp only; split <;> simp

@[simp] theorem State.discipline_store (t : Taken) :
    (s.discipline t).intake.store.length = s.intake.store.length := by
  unfold State.discipline State.correctSeconds; dsimp only; split <;> simp

@[simp] theorem State.takenEdge_store (t : Taken) :
    (s.takenEdge t).intake.store.length = s.intake.store.length := by
  unfold State.takenEdge; (repeat' split) <;> simp

@[simp] theorem State.evaluateReference_store :
    s.evaluateReference.intake.store.length = s.intake.store.length := by
  unfold State.evaluateReference
  split
  · rfl
  · dsimp only; split <;> simp

@[simp] theorem State.returnReference_store : s.returnReference.intake.store.length = s.intake.store.length := by
  unfold State.returnReference; split <;> simp

@[simp] theorem State.pairRecord_store (x : BitVec 32) (b : Bool) :
    (s.pairRecord x b).intake.store.length = s.intake.store.length := by
  unfold State.pairRecord; (repeat' split) <;> simp

@[simp] theorem State.refCharacter_store (x : Byte) (b : Bool) :
    (s.refCharacter x b).intake.store.length = s.intake.store.length := by
  unfold State.refCharacter State.recordCharacter State.endRecord; dsimp only; (repeat' split) <;> simp

/-! ### The limit steps -/

/-- A limit step leaves the phase, the profile and the number of sets in the store. -/
theorem Limit.effect_store (x : Limit) :
    (x.effect s).loader.phase = s.loader.phase ∧ (x.effect s).loader.profile = s.loader.profile ∧
    (x.effect s).intake.store.length = s.intake.store.length := by
  cases x <;> simp [Limit.effect, State.outlierLimit, State.ageLimit, State.clearConflict, State.clearDisturbed,
    State.dropTimePart, State.dropHeatPart, State.dropTriggerPart, State.endWarmup, State.endHoldoff, State.mapLoader,
    State.stall, State.enterShed, State.closePort]

/-- The limit steps taken before a command leave them too. -/
theorem State.settleFor_store (n : Nat) :
    (State.settleFor n s).loader.phase = s.loader.phase ∧ (State.settleFor n s).loader.profile = s.loader.profile ∧
    (State.settleFor n s).intake.store.length = s.intake.store.length := by
  induction n generalizing s with
  | zero => exact ⟨rfl, rfl, rfl⟩
  | succ n ih =>
    unfold State.settleFor
    split
    · exact ⟨rfl, rfl, rfl⟩
    · have h := ih (Limit.effect s ‹_›)
      have h2 := Limit.effect_store s ‹_›
      exact ⟨h.1.trans h2.1, h.2.1.trans h2.2.1, h.2.2.trans h2.2.2⟩

end Sys2Proof.Machine
end

