-- ==== Sys2Proof/Laws/TriggerEnd.lean ====
section
/-! SUPPORT. What the end of a trigger does, by whatever cause. -/

namespace Sys2Proof.Machine

variable (s : State)

/-- A trigger end with the CODA slot empty changes the record's reason, and tells the other blocks (R112). -/
theorem State.endTrigger_tellsEnd (reason : EndReason) (r : TriggerRecord) (h : s.detector.record = some r)
    (hc : s.sched.slots.coda = .empty) :
    s.tellsEnd (s.endTrigger reason) { r with reason := reason } ∧
    s.endTrigger reason = { s with
      detector := { s.detector with record := some { r with reason := reason } }
      peers := (s.endTrigger reason).peers
      sched := (s.endTrigger reason).sched
      co := (s.endTrigger reason).co
      heater := (s.endTrigger reason).heater } := by
  refine ⟨⟨?_, ?_, ?_, ?_, ?_, ?_, ?_⟩, ?_⟩
  · intro p hp ho
    simp only [Peers.row] at hp
    simp [State.endTrigger, h, State.request, Slots.get, hc, TriggerRecord.toSummary, Row.attach, Row.hasOnset,
      Peers.row, hp, ho]
  · intro hp
    have hh : (s.peers.row s.loader.station).hasOnset r.onset = false := by
      unfold Row.hasOnset
      split
      · rfl
      · exact decide_eq_false (hp _ ‹_›)
    have ha (x : Summary) : (s.peers.row s.loader.station).attach r.onset x = s.peers.row s.loader.station := by
      simp only [Row.attach, hh, Bool.false_eq_true, if_false]
    simp [State.endTrigger, h, State.request, Slots.get, hc, ha]
  · simp [State.endTrigger, h, State.request, Slots.get, hc, State.askCo]
  · rintro q rfl
    simp [State.endTrigger, h, State.request, Slots.get, hc, Slots.set, State.setSlot]
  · simp [State.endTrigger, h]
  · simp [State.endTrigger, h, State.request, Slots.get, hc]
  · simp [State.endTrigger, h, State.noticeTriggered_release, State.request, Slots.get, hc]
  · apply State.ext <;> simp [State.endTrigger, h, State.request, Slots.get, hc]

/-- A trigger in progress ends by halt, with the CODA slot empty (R101, R111, R112). -/
theorem State.halt_tellsEnd (hd : s.detector.state = .triggered) (r : TriggerRecord)
    (hr : s.detector.record = some r) (hc : s.sched.slots.coda = .empty) :
    s.halt.detector = { s.detector with
      state := .halted, warmup := 0, holdoff := 0, record := some { r with reason := .halted }
      counters := { s.detector.counters with haltedEnds := min (s.detector.counters.haltedEnds + 1) 65535 } } ∧
    s.tellsEnd s.halt { r with reason := .halted } ∧
    s.halt = { s with
      detector := s.halt.detector, peers := s.halt.peers, sched := s.halt.sched, co := s.halt.co
      heater := s.halt.heater } := by
  obtain ⟨h1, h2⟩ := s.endTrigger_tellsEnd .halted r hr hc
  simp only [State.halt, hd]
  refine ⟨?_, h1, ?_⟩ <;> rw [h2] <;> rfl

/-- A trigger in progress ends by halt, whatever the CODA slot holds (R101, R111, R112). -/
theorem State.halt_triggered (hd : s.detector.state = .triggered) (r : TriggerRecord)
    (hr : s.detector.record = some r) :
    s.halt.detector.record = some { r with reason := .halted } ∧ s.halt.heater.triggered = false ∧
    s.halt.co.waiting = s.co.waiting ++ [.peak .detector s.loader.station r.onset r.peak] ∧
    s.halt.detector.counters.haltedEnds = min (s.detector.counters.haltedEnds + 1) 65535 := by
  simp only [State.halt, hd, State.endTrigger, hr]
  refine ⟨?_, by simp, ?_, ?_⟩
  · simp only [State.mapDetector_detector, State.noticeTriggered_frame, State.request]
    split <;> simp [State.leave, State.report, State.reportCoda]
  · simp only [State.mapDetector_frame, State.noticeTriggered_frame]
    rw [((State.request_other _ .coda _ _ _ _).2.2.2 (by simp) (by simp)).1]
    simp
  · simp only [State.mapDetector_detector, State.noticeTriggered_frame, State.request]
    split <;> simp [State.leave, State.report, State.reportCoda, bump16]

end Sys2Proof.Machine
end

