-- ==== Sys2Proof/Tests/Slice0.lean ====
section
/-! SUPPORT. Tests of the model against the manual's worked examples, the refusals of WellFormed, and for every statement
with hypotheses a state and operands that meet them. -/

namespace Sys2Proof.Tests

open Sys2Proof Sys2Proof.Machine

/-! ### Small states -/

/-- RUNNING with the built-in defaults, the bank half full, at station time 0.0. -/
def run : State := { State.reset with
  loader := { Loader.reset with phase := .running }
  battery := { Battery.reset with loadoff := false, Q := 90000000 } }

/-- Loading, before its end. -/
def load : State := { State.reset with loader := { Loader.reset with phase := .loading } }

/-- A state at a station time, its last cycle an ordinary one. -/
def at' (s : State) (sec : BitVec 32) (sub : Nat) : State :=
  { s with clock := { s.clock with time := ⟨sec, sub⟩, advanced := 1 } }

/-- The state a command leaves. -/
def after (c : Instr) (s : State) : State :=
  match exec c s with
  | .next t => t
  | .fault _ => s
  | .refused _ => s

/-- A state with another clock. -/
def withClock (s : State) (f : Clock → Clock) : State := { s with clock := f s.clock }

/-- A state with another trunk controller. -/
def withTrunk (s : State) (f : Trunk → Trunk) : State := { s with trunk := f s.trunk }

/-- A state whose row of a station is this one. -/
def withRow (s : State) (n : Station) (r : Row) : State := { s with peers := s.peers.setRow n r }

/-- A state with this entry in the inbound queue, its sender station 3. -/
def withEntry (s : State) (k : FrameKind) (body : List Byte) : State :=
  { s with peers := { s.peers with queue := [⟨k, 3, body, ⟨20, 0⟩⟩] } }

/-- A state with this request of the coincidence unit waiting. -/
def withRequest (s : State) (r : CoRequest) : State := { s with co := { s.co with waiting := [r] } }

/-- A trigger part of class T2. -/
def part (onset : Time) : TriggerPart := ⟨onset, .t2, false, false, 71, false, none, false⟩

/-- A time part of a class and an offset. -/
def timed (cls : TimeClass) (offset : Int) : TimePart :=
  ⟨cls, false, false, false, .normal, 0, 50, offset, false, 0⟩

/-- A request with no deadline. -/
def request : Request := ⟨[], .serial 5, ⟨20, 0⟩, none, 0, none, false⟩

/-- An open record, its origin at station 3, with this station's onset among its members. -/
def event (origin : Time) : Event :=
  { run.newEvent origin 3 1 4 0b1000 false with serial := 5, members := (Vector.replicate 14 none).set 3 (some origin) }

/-- A state with this event list, newest first. -/
def withEvents (s : State) (l : List Event) : State := { s with co := { s.co with events := l } }

/-- Readings that change nothing but the charge. -/
def reading (current : Int) : Readings := ⟨12500, current, 200, 200⟩

/-! ### WellFormed refuses what the pins cannot show -/

theorem test_wellFormed_refuses_voltage : (Instr.secondBoundaryEvent ⟨32768, 0, 0, 0⟩).wellFormed = false := by decide

theorem test_wellFormed_refuses_fourth_byte : (Instr.profileAttemptEnd (.notAcknowledged 3)).wellFormed = false := by
  decide

theorem test_wellFormed_refuses_recessive_start : (Instr.characterReceived 1).wellFormed = false := by decide

theorem test_wellFormed_accepts : (Instr.secondBoundaryEvent ⟨32767, -32768, 850, -400⟩).wellFormed = true ∧
    (Instr.profileAttemptEnd (.notAcknowledged 2)).wellFormed = true ∧ (Instr.characterReceived 0).wellFormed = true := by
  decide

/-! ### The manual's worked examples -/

/-- The worked example of R15: F, P and e_start over five intervals. -/
theorem test_worked_discipline :
    newTrim 0 0 0 48 = 24 ∧ newSlew 48 = 3 ∧ newTrim 24 3 48 24 = 36 ∧ newSlew 24 = 1 ∧ newTrim 36 1 24 20 = 42 ∧
    newSlew 20 = 1 ∧ newTrim 42 1 20 10 = 45 ∧ newSlew 10 = 0 ∧ newTrim 45 0 10 13 = 46 ∧ newSlew 13 = 0 := by decide

/-- F = 24 brings 1 cycle in every second and a dither cycle in the 8 seconds below 8 (worked example of R15). -/
theorem test_worked_dither : adjustment 7 24 3 = 5 ∧ adjustment 8 24 3 = 4 ∧ adjustment 0 (-1) 0 = 0 ∧
    adjustment 15 (-1) 0 = -1 := by decide

/-- The offset of the worked sequence of chapter 3: 1001.0,002,530 against 1000.9,999,990. -/
theorem test_worked_offset : beaconOffset ⟨1001, 2530⟩ ⟨1000, 9999990⟩ = 2540 := by decide

/-- +800 mA adds 750, +7 adds 6, +1 adds nothing, and a discharge counts in full (R162). -/
theorem test_worked_charge : chargeAfter 1000 180000000 800 = 1750 ∧ chargeAfter 1000 180000000 7 = 1006 ∧
    chargeAfter 1000 180000000 1 = 1000 ∧ chargeAfter 1000 180000000 (-7) = 993 ∧ chargeAfter 5 180000000 (-7) = 0 ∧
    chargeAfter 179999999 180000000 800 = 180000000 := by decide

/-- The grants of section 10.7, in NORMAL, CONSERVE and RESERVE. -/
theorem test_worked_grant : grant 140 80 130 260 300 = 119 ∧ grant 140 80 130 260 150 = 84 ∧
    grant 140 80 130 260 0 = 0 ∧ grant 100 50 50 200 300 = 100 ∧ grant 150 0 130 260 300 = 98 := by decide

/-- Requests and demands of section 10.7. -/
theorem test_worked_demand : heatRequest (some (-30)) 50 2 = 16 ∧ heatDemand 16 160 = 80 ∧ heatDemand 16 120 = 60 ∧
    heatUrgent (some (-30)) 0 = true := by decide

/-- The averages of section 6.8 at normal levels, set by set, and the on test at the third. -/
theorem test_worked_averages : average 128000 6000 3 = 304000 ∧ average 128000 6000 10 = 129375 ∧
    average 458000 6000 3 = 592750 ∧ average 130748 6000 10 = 132120 ∧
    onTest Profile.builtIn 458000 130748 = false ∧ onTest Profile.builtIn 592750 132120 = true := by decide

/-- The windows of section 10.7: H0's first and last subsecond, and H1's, which wraps. -/
theorem test_worked_windows : inWindow 4375000 4375000 16 = true ∧ inWindow 9374999 4375000 16 = true ∧
    inWindow 9375000 4375000 16 = false ∧ inWindow 2499999 9375000 10 = true ∧ inWindow 2500000 9375000 10 = false := by
  decide

/-- One byte of 0s through the register of R35, worked by hand: 0xFF after eight 0 bits is 0xAC. -/
theorem test_crc_by_hand : crcByte 0xFF 0x00 = 0xAC := by decide

/-! ### The queue, the oscillator and the resets -/

theorem witness_StepRunsFrontCommand : ({ run with pending := [.ppsEdge] } : State).pending = .ppsEdge :: [] := by decide

theorem witness_IdleStepCountsOneCycle :
    run.pending = [] ∧ run.dueCommand = none ∧ run.isReleased = true := by decide

/-- The moments of R2: a plain count, the end of a second, an extra cycle and a skipped value. -/
theorem witness_IdleStepCountsOneCycle_clauses :
    (withClock run (fun c => { c with hold := true })).dueCommand = none ∧
    (withClock run (fun c => { c with time := ⟨20, 9999999⟩ })).dueCommand = none ∧
    (withClock run (fun c => { c with time := ⟨20, 9999⟩, d := 1 })).dueCommand = none ∧
    (withClock run (fun c => { c with time := ⟨20, 9999⟩, d := -1 })).dueCommand = none := by decide

/-- The trunk one cycle before a sample and two before it, in and outside a character, and the bus and the hatch counting:
1,843,200 is what a cycle adds at 115,200 bit/s (R26). -/
theorem witness_IdleStepCountsOneCycle_sample :
    let s : Nat → Receiver → State := fun acc x => { run with
      trunk := { run.trunk with acc := acc, receiver := x }
      pins := { run.pins with hatch := !run.loader.filteredOpen } }
    (s 8156800 .hunting).dueCommand = none ∧ (s 8156799 .hunting).dueCommand = none ∧
    (s 8156800 (.inChar 5 ⟨20, 0⟩)).dueCommand = none ∧ (s 0 .hunting).loader.bus ≠ .aborting 0 ∧
    (s 8156800 .hunting).countCycle.trunk.idleTimer = 1 ∧ (s 8156799 .hunting).countCycle.trunk.idleTimer = 0 ∧
    (s 8156800 (.inChar 5 ⟨20, 0⟩)).countCycle.trunk.receiver = .inChar 6 ⟨20, 0⟩ ∧
    (s 0 .hunting).countCycle.loader.stability = 1 := by decide

theorem witness_SecondSpansItsAdjustment : run.clock.time.sub = 0 ∧ run.clock.hold = false ∧ -999 ≤ run.clock.d ∧
    run.clock.d ≤ 999 := by decide

theorem witness_ResetsGiveTheirValues : run.isSettled = true := by decide

theorem witness_ReleaseSamplesTheStraps :
    State.reset.isSettled = true ∧ State.reset.loader.phase = .held := by decide

/-- The release of section 11.1, at both ends of the strap's range. -/
theorem test_release_straps : (after (.resetRelease 13 true false) State.reset).loader.station = 13 ∧
    (after (.resetRelease 15 true false) State.reset).loader.station = 13 ∧
    (after (.resetRelease 0 false true) State.reset).loader.disturbed = true := by decide

/-- A state in which the first attempt of the profile read has run for this many cycles. -/
def attemptAt (cycles : Nat) : State := { load with loader := { load.loader with bus := .reading cycles, attempts := 1 } }

theorem witness_ProfileReadEnds_start :
    ({ load with loader := { load.loader with bus := .waiting 0 } } : State).isSettled = true ∧
    load.loader.phase = .loading := by decide

/-- An attempt whose stop condition has just been completed. -/
def aborted (attempts : Nat) : State := { load with loader := { load.loader with bus := .aborting 0, attempts := attempts } }

/-- The failed attempt ends with the next cycle: the second in the wait of 10 ms, the third in the defaults (R189). -/
theorem witness_ProfileReadEnds_abort : (aborted 2).pending = [] ∧ (aborted 2).dueCommand = none ∧
    (aborted 3).dueCommand = none ∧ (aborted 2).countCycle.loader.bus = .waiting 99999 ∧
    (aborted 3).countCycle.loader.phase = .running := by decide

/-- The lines of R189: PSDA falls in the last quarter of the start, the address 0x53 for writing follows, and a failed
attempt holds PSDA low until 50 cycles after PSCL is released. -/
theorem test_profile_bus : let s : Bus → State := fun b => { load with loader := { load.loader with bus := b } }
    (s (.reading 74)).psdaLow = false ∧ (s (.reading 75)).psdaLow = true ∧ (s (.reading 75)).psclLow = false ∧
    (s (.reading 150)).psdaLow = false ∧ (s (.reading 150)).psclLow = false ∧ (s (.reading 149)).psclLow = true ∧
    (s (.reading 250)).psdaLow = true ∧ (s (.aborting 50)).psdaLow = true ∧ (s (.aborting 50)).psclLow = false ∧
    (s (.aborting 0)).psdaLow = false := by decide

/-- At each moment at which an attempt can end, and at 0 cycles, 46,199 cycles and the limit. -/
theorem witness_ProfileReadEnds_attempt :
    (∀ n ∈ [0, 75, 974, 975, 1875, 1975, 2875, 46199, 46200, 100000], (attemptAt n).isSettled = true) ∧
    load.loader.phase = .loading ∧ (attemptAt 46200).loader.attempts < 3 ∧
    profileSum (Vector.replicate 48 0) ≠ 0xA55A := by decide

theorem witness_ProfileReadEnds_last :
    ({ attemptAt 46200 with loader := { (attemptAt 46200).loader with attempts := 3 } } : State).isSettled = true := by decide

theorem witness_ProfileReadEnds_unreported : (attemptAt 46200).pending = [] ∧ (attemptAt 46200).boundary = none ∧
    (attemptAt 46200).heater.hold = .idle := by decide

/-- The periods of R189: the acknowledgements in the tenth, nineteenth and twenty-ninth, the starts in the first and the
twentieth, the stop in the 462nd and last. -/
theorem test_profile_periods : acknowledgePeriods.map busPeriod = [.listen, .listen, .listen] ∧
    [0, 19].map busPeriod = [.start, .start] ∧ busPeriod 461 = .stop ∧ busPeriod 462 = .ended ∧
    stopCycles = 100 * 462 := by decide

/-- A result counts at its moment and at no other; an unreported attempt stops by itself. -/
theorem test_profile_moments :
    (after (.profileAttemptEnd (.stopped (Vector.replicate 48 0))) (attemptAt 46199)).loader.bus = .reading 46199 ∧
    (after (.profileAttemptEnd (.stopped (Vector.replicate 48 0))) (attemptAt 46200)).loader.bus = .waiting 100000 ∧
    (after (.profileAttemptEnd (.notAcknowledged 1)) (attemptAt 975)).loader.bus = .reading 975 ∧
    (after (.profileAttemptEnd (.notAcknowledged 0)) (attemptAt 975)).loader.bus = .aborting 125 ∧
    (after (.profileAttemptEnd .heldLow) (attemptAt 75)).loader.bus = .aborting 125 ∧
    (after (.profileAttemptEnd .heldLow) (attemptAt 46200)).loader.bus = .aborting 100 ∧
    (attemptAt 46199).dueCommand = none ∧ (attemptAt 46200).dueCommand.isSome = true ∧
    (attemptAt 46200).stopReached = true := by decide

/-- 46 zero bytes and the check word itself. -/
def validImage : Vector Byte 48 := ((Vector.replicate 48 0).set 46 0x5A).set 47 0xA5

theorem witness_ProfileReadEnds_valid : (attemptAt 46200).isSettled = true ∧ profileSum validImage = 0xA55A := by decide

theorem witness_HatchMarksDisturbance :
    ({ run with pins := { run.pins with hatch := true }, loader := { run.loader with stability := 500000 } } :
      State).isSettled = true ∧
    ({ run with pins := { run.pins with hatch := false }
                loader := { run.loader with stability := 500000, filteredOpen := true } } : State).isSettled = true := by
  decide

theorem witness_HatchMarksDisturbance_expiry :
    ({ run.loader with disturbed := true } : Loader).filteredOpen = false ∧ run.loader.disturbedTimer = 0 := by decide

theorem witness_LoadingTakesNothing : load.isSettled = true ∧ load.loader.phase ≠ .running := by decide

/-! ### The station clock -/

/-- An edge awaiting its record since 0.9 s. -/
def awaited : Edge := ⟨100, 100, 20, ⟨20, 100⟩, false⟩

/-- The sixth byte of a record for second 20 has come. -/
def recorded (state : ClockState) (interval : Interval) : State :=
  withClock (at' run 20 8000000) (fun c => { c with
    state := state, interval := interval, awaiting := some awaited, refBytes := [0x5A, 20, 0, 0, 0, 1]
    refLast := some ⟨20, 7990000⟩, lastEdge := some ⟨20, 100⟩, lossStart := some ⟨20, 100⟩ })

theorem witness_EdgesAwaitTheirRecord : run.isSettled = true ∧ run.loader.phase = .running ∧
    run.clock.awaiting = none := by decide

theorem witness_EdgesAwaitTheirRecord_missing :
    (withClock (recorded .locked (.reference 0 3)) (fun c => { c with time := ⟨20, 9000100⟩ })).isSettled = true ∧
    (Time.diff ⟨20, 9000100⟩ awaited.captured = 9000000) := by decide

/-- The edge at 5,000,000 is early by half a second; at 4,999,999 it is late (R5). -/
theorem test_phase_error : phaseError 4999999 = 4999999 ∧ phaseError 5000000 = -5000000 ∧
    (after .ppsEdge (at' run 7 9999990)).clock.awaiting.map (fun e => (e.e, e.assigned)) = some (-10, 8) := by decide

/-- The last cycle at which a character still continues the record, the first at which it does not, and the first at
which the gap alone ends the record (R6). -/
theorem witness_TimeRecordIsAssembled : run.clock.refBytes = [] ∧
    (recorded .locked .none).isSettled = true ∧ (recorded .locked .none).clock.refBytes.length = 6 ∧
    (withClock (recorded .locked .none) (fun c => { c with refBytes := [0x5A] })).isSettled = true ∧
    Time.diff ⟨20, 8049896⟩ ⟨20, 7990000⟩ = 59896 ∧ Time.diff ⟨20, 8049897⟩ ⟨20, 7990000⟩ = 59897 ∧
    (withClock (recorded .locked .none) (fun c => { c with time := ⟨20, 8049897⟩ })).isSettled = true ∧
    Time.diff ⟨20, 8040001⟩ ⟨20, 7990000⟩ = 50001 := by decide

/-- The record of `recorded` with no edge awaiting, and one cycle after 900 ms: it is ignored, the edge awaiting still. -/
theorem witness_TimeRecordIsAssembled_unanswered :
    let none' := withClock (recorded .locked .none) (fun c => { c with awaiting := none })
    let late := withClock (recorded .locked .none) (fun c => { c with time := ⟨20, 9000101⟩, refLast := some ⟨20, 9000000⟩ })
    none'.isSettled = true ∧ late.isSettled = true ∧ Time.diff ⟨20, 9000101⟩ awaited.captured = 9000001 ∧
    Time.diff ⟨20, 9000101⟩ ⟨20, 9000000⟩ ≤ 59896 ∧ [0x5A, 20, 0, 0, 0, 1].foldl (fun x y => x ^^^ y) 0 = (0x4F : Byte) ∧
    (after (.refrxCharacter 0x4F true) none').clock.state = .locked ∧
    (after (.refrxCharacter 0x4F true) late).clock.awaiting = some awaited ∧
    (after (.refrxCharacter 0x4F true) late).clock.taken = none := by decide

/-- The record of `recorded`, its check byte 0x5A ⊕ 20 ⊕ 1, answers the edge. -/
theorem witness_answersEdge (s : State) (x : Edge) (h : s.isSettled = true) (hp : s.loader.phase = .running)
    (h1 : s.clock.refBytes = [0x5A, 20, 0, 0, 0, 1]) (h2 : s.clock.refLast = some ⟨20, 7990000⟩)
    (h3 : s.clock.time = ⟨20, 8000000⟩) (h4 : s.clock.awaiting = some x) (h5 : x.captured = ⟨20, 100⟩) :
    s.answersEdge [0x5A, 20, 0, 0, 0, 1] 0x4F x 20 :=
  ⟨h, hp, h1, rfl, ⟨_, h2, by rw [h3]; decide⟩, by decide, by decide, by decide, h4, by rw [h3, h5]; decide⟩

theorem witness_FirstEdgeAndReturnAcquire :
    (recorded .unset .none).answersEdge [0x5A, 20, 0, 0, 0, 1] 0x4F awaited 20 :=
  witness_answersEdge _ _ (by decide) rfl rfl rfl rfl rfl rfl

/-- An edge at subsecond 0 of the record's second needs no step (R13). -/
theorem witness_FirstEdgeAndReturnAcquire_exact : let x : Edge := ⟨0, 0, 20, ⟨20, 0⟩, false⟩
    let s := withClock (recorded .unset .none) (fun c => { c with awaiting := some x })
    s.answersEdge [0x5A, 20, 0, 0, 0, 1] 0x4F x 20 ∧ Time.diff ⟨20, 0⟩ x.captured = 0 ∧
    (after (.refrxCharacter 0x4F true) s).clock.epoch = 0 := by
  refine ⟨⟨?_, ?_, ?_, ?_, ⟨_, rfl, ?_⟩, ?_⟩, ?_⟩ <;> decide

theorem witness_FirstEdgeAndReturnAcquire_pending :
    (withClock (recorded .acquire .none) (fun c => { c with acquirePending := true })).answersEdge
      [0x5A, 20, 0, 0, 0, 1] 0x4F awaited 20 :=
  witness_answersEdge _ _ (by decide) rfl rfl rfl rfl rfl rfl

/-- The second and the third taken edge of a return, and a gap edge, which is a first (R17). -/
theorem witness_FirstEdgeAndReturnAcquire_count :
    (withClock (recorded .holdover .none) (fun c => { c with returnCount := 2 })).answersEdge
      [0x5A, 20, 0, 0, 0, 1] 0x4F awaited 20 ∧
    (withClock (recorded .peerSteered (.peer 0 ⟨20, 0⟩)) (fun c => { c with
      returnCount := 2, steeringClass := some .t1, awaiting := some { awaited with gap := true } })).answersEdge
      [0x5A, 20, 0, 0, 0, 1] 0x4F { awaited with gap := true } 20 :=
  ⟨witness_answersEdge _ _ (by decide) rfl rfl rfl rfl rfl rfl,
    witness_answersEdge _ _ (by decide) rfl rfl rfl rfl rfl rfl⟩

theorem witness_FirstEdgeAndReturnAcquire_return :
    (withClock run (fun c => { c with state := .holdover, returnCount := 3, taken := some ⟨awaited, 20⟩
                               })).nextLimit = some .refReturn := by decide

/-- The acquisition step brings the edge to subsecond 0 of the record's second (R13). -/
theorem test_acquisition : (after (.refrxCharacter 0x4F true) (recorded .unset .none)).clock.time = ⟨20, 7999900⟩ ∧
    (after (.refrxCharacter 0x4F true) (recorded .unset .none)).clock.state = .acquire := by decide

/-- The fifteenth edge of an interval, and the sixteenth, in ACQUIRE. -/
theorem witness_LockedEdgesDiscipline :
    (recorded .locked (.reference 0 14)).answersEdge [0x5A, 20, 0, 0, 0, 1] 0x4F awaited 20 ∧
    (recorded .acquire (.reference 0 15)).answersEdge [0x5A, 20, 0, 0, 0, 1] 0x4F awaited 20 ∧
    (after (.refrxCharacter 0x4F true) (recorded .locked (.reference 0 14))).clock.taken = none ∧
    (after (.refrxCharacter 0x4F true) (recorded .acquire (.reference 0 15))).clock.taken = some ⟨awaited, 20⟩ :=
  ⟨witness_answersEdge _ _ (by decide) rfl rfl rfl rfl rfl rfl,
    witness_answersEdge _ _ (by decide) rfl rfl rfl rfl rfl rfl, by decide, by decide⟩

/-- `recorded` with this edge awaiting its record. -/
def edged (x : Edge) : State := withClock (recorded .locked (.reference 0 3)) (fun c => { c with awaiting := some x })

/-- A gap edge, a first edge after a discard, an edge whose second is another, and edges at 10,000 and 10,001 cycles, the
first beyond 1 ms (R8, R10, R14). -/
theorem witness_LockedEdgesDiscipline_edges :
    (edged { awaited with gap := true }).answersEdge [0x5A, 20, 0, 0, 0, 1] 0x4F { awaited with gap := true } 20 ∧
    (recorded .acquire .none).answersEdge [0x5A, 20, 0, 0, 0, 1] 0x4F awaited 20 ∧
    (edged { awaited with assigned := 19 }).answersEdge [0x5A, 20, 0, 0, 0, 1] 0x4F { awaited with assigned := 19 } 20 ∧
    (edged { awaited with assigned := 19, gap := true }).answersEdge [0x5A, 20, 0, 0, 0, 1] 0x4F
      { awaited with assigned := 19, gap := true } 20 ∧
    (edged { awaited with e := 10000 }).answersEdge [0x5A, 20, 0, 0, 0, 1] 0x4F { awaited with e := 10000 } 20 ∧
    (edged { awaited with e := 10001 }).answersEdge [0x5A, 20, 0, 0, 0, 1] 0x4F { awaited with e := 10001 } 20 :=
  ⟨witness_answersEdge _ _ (by decide) rfl rfl rfl rfl rfl rfl, witness_answersEdge _ _ (by decide) rfl rfl rfl rfl rfl rfl,
    witness_answersEdge _ _ (by decide) rfl rfl rfl rfl rfl rfl, witness_answersEdge _ _ (by decide) rfl rfl rfl rfl rfl rfl,
    witness_answersEdge _ _ (by decide) rfl rfl rfl rfl rfl rfl, witness_answersEdge _ _ (by decide) rfl rfl rfl rfl rfl rfl⟩

/-- Only the edge beyond 1 ms is an outlier; the record of another second corrects the clock by that second. -/
theorem test_edges : (after (.refrxCharacter 0x4F true) (edged { awaited with e := 10001 })).clock.outliers = 1 ∧
    (after (.refrxCharacter 0x4F true) (edged { awaited with e := 10000 })).clock.outliers = 0 ∧
    (after (.refrxCharacter 0x4F true) (edged { awaited with assigned := 19 })).clock.time = ⟨21, 8000000⟩ ∧
    (after (.refrxCharacter 0x4F true) (edged { awaited with gap := true })).clock.interval = .reference 100 0 := by
  decide

theorem witness_LockedEdgesDiscipline_limit :
    (withClock run (fun c => { c with state := .locked, outliers := 3 })).nextLimit = some .outlier := by decide

/-- An evaluation edge with this phase error, the interval begun at 0. -/
def evaluated (e : Int) : State :=
  withClock run (fun c => { c with
    state := .acquire, interval := .reference 0 16, taken := some ⟨{ awaited with e := e }, 20⟩ })

theorem witness_ReferenceIsEvaluated : (evaluated 48).nextLimit = some .evaluation ∧
    (evaluated 201).nextLimit = some .evaluation := by decide

/-- The table of R15: 100 locks, 101 and 200 slew in ACQUIRE, 201 steps. -/
theorem test_evaluation_table : (after .referenceEvaluation (evaluated 100)).clock.state = .locked ∧
    (after .referenceEvaluation (evaluated 101)).clock.state = .acquire ∧
    (after .referenceEvaluation (evaluated 200)).clock.P = 12 ∧
    (after .referenceEvaluation (evaluated 201)).clock.epoch = 1 := by decide

theorem witness_LossEndsInHoldover :
    (withClock (at' run 23 100) (fun c => { c with state := .locked, lossStart := some ⟨20, 100⟩ })).isSettled = true ∧
    Time.diff ⟨23, 100⟩ ⟨20, 100⟩ = 30000000 ∧
    (withClock run (fun c => { c with missing := 3 })).nextLimit = some .missing ∧
    (withClock run (fun c => { c with state := .holdover, age := 3600 })).nextLimit = some .age := by decide

/-- A record that says its time is not valid, its check byte 0x5A ⊕ 20 (R7, R9). -/
def refused : State :=
  withClock (recorded .locked (.reference 0 3)) (fun c => { c with refBytes := [0x5A, 20, 0, 0, 0, 0] })

theorem witness_LossEndsInHoldover_record : refused.refusesEdge [0x5A, 20, 0, 0, 0, 0] 0x4E awaited ∧
    (after (.refrxCharacter 0x4E true) refused).clock.state = .holdover :=
  ⟨⟨by decide, rfl, rfl, rfl, ⟨_, rfl, by show Time.diff ⟨20, 8000000⟩ ⟨20, 7990000⟩ ≤ 50000; decide⟩, by decide,
    by decide, rfl, by show Time.diff ⟨20, 8000000⟩ ⟨20, 100⟩ ≤ 9000000; decide⟩, by decide⟩

/-- Of four offsets the second smallest is the median, and of five the third (R19). -/
theorem witness_isMedian : isMedian [5, 1, 3, 2] 2 ∧ isMedian [5, 1, 3, 2, 4] 3 ∧ isMedian [2000] 2000 := by
  refine ⟨⟨?_, ?_, ?_⟩, ⟨?_, ?_, ?_⟩, ⟨?_, ?_, ?_⟩⟩ <;> decide

/-- Peer steering for 16 s, with one fresh T0 row. -/
def steered (offset : Int) : State :=
  withRow (withClock (at' run 36 0) (fun c => { c with
    state := .peerSteered, interval := .peer 0 ⟨20, 0⟩, steeringClass := some .t1, advanced := 0 })) 3
    ⟨some (timed .t0 offset), none, none⟩

theorem witness_PeersAreEvaluated : (steered 2000).isSettled = true ∧
    (steered 2000).offsetsOf TimeClass.t1.sources = [2000] ∧ (steered 2001).isSettled = true ∧
    (steered 2001).offsetsOf TimeClass.t1.sources = [2001] ∧ (withRow (steered 0) 3 Row.absent).isSettled = true ∧
    (withRow (steered 0) 3 Row.absent).offsetsOf TimeClass.t1.sources = [] := by decide

/-- The three clauses of a re-examination: an entry from HOLDOVER with a T0 source (R19), an exit with no candidate (R21)
and a restart (R20). -/
theorem witness_reexamines : let held := withClock (steered 5) (fun c => { c with state := .holdover, interval := .none })
    held.offsetsOf TimeClass.t1.sources = [5] ∧ held.reexamine.clock.state = .peerSteered ∧
    (withRow (steered 5) 3 Row.absent).partsOf TimeClass.t1.sources = [] ∧
    (withRow (steered 5) 3 Row.absent).reexamine.clock.state = .holdover ∧
    (withClock (steered 5) (fun c => { c with restartPending := true })).reexamine.clock.interval = .peer 5 ⟨36, 0⟩ := by
  decide

/-- A peer evaluation slews at 2,000 cycles and steps beyond (R20). -/
theorem test_peer_limits : (after .peerEvaluation (steered 2000)).clock.epoch = 0 ∧
    (after .peerEvaluation (steered 2001)).clock.time = ⟨35, 9997999⟩ := by decide

/-- A step backward past 0 wraps station seconds (R22). -/
theorem test_step_wraps : Time.add ⟨0, 5⟩ (-10) = ⟨0xFFFFFFFF, 9999995⟩ ∧ Time.add ⟨0xFFFFFFFF, 9999995⟩ 10 = ⟨0, 5⟩ := by
  decide

/-- A boundary has just fallen, whose event has not been issued. -/
theorem witness_atBoundary : (at' run 20 0).atBoundary ∧ (at' run 20 0).isSettled = true := by
  refine ⟨⟨by decide, fun b h => ?_⟩, by decide⟩
  exact absurd h (by simp [at', run, State.reset, Clock.reset])

theorem witness_BoundaryCountsEveryBlock : (at' load 20 0).isSettled = true ∧ (at' load 20 0).loader.phase ≠ .held := by
  decide

theorem witness_ReadingsDriveTheStage : (reading 800).wellFormed = true ∧ (reading (-32768)).wellFormed = true ∧
    (after (.secondBoundaryEvent (reading 800)) (at' run 20 0)).battery.full < 600 ∧
    (after (.secondBoundaryEvent (reading 800)) (at' run 20 0)).battery.Q = 90000750 := by decide

/-- In SHED, with a reading at the recovery level, 500 mV above V_shed (R166). -/
theorem witness_ReadingsDriveTheStage_shed :
    (after (.secondBoundaryEvent ⟨12300, 0, 200, 200⟩)
      (at' { run with battery := { run.battery with stage := .shed } } 20 0)).battery.recovery = 1 ∧
    (after (.secondBoundaryEvent ⟨12299, 0, 200, 200⟩)
      (at' { run with battery := { run.battery with stage := .shed } } 20 0)).battery.recovery = 0 := by decide

/-- A battery monitor at a boundary, with this charge and these counts of readings. -/
def counted (stage : Stage) (q full low recovery : Nat) : State :=
  at' { run with battery := { run.battery with stage := stage, Q := q, full := full, low := low, recovery := recovery } } 20 0

/-- The tenth low reading and the sixtieth at the recovery level leave the stage to their limit step, the 600th full one
leaves the stage tests to the resync, and a fault of either sensor is counted (R161, R163 to R166, R172). -/
theorem witness_ReadingsDriveTheStage_limits :
    (after (.secondBoundaryEvent ⟨11799, 0, 200, 200⟩) (counted .normal 90000000 0 9 0)).battery.low = 10 ∧
    (after (.secondBoundaryEvent ⟨12300, 0, 200, 200⟩) (counted .shed 90000000 0 0 59)).battery.recovery = 60 ∧
    (after (.secondBoundaryEvent ⟨14400, 0, 200, 200⟩) (counted .normal 90000000 599 0 0)).battery.testsDue = true ∧
    (after (.secondBoundaryEvent ⟨12500, 0, 200, 850⟩) (counted .normal 90000000 0 0 0)).battery.counters.enclosureFaults = 1 ∧
    (after (.secondBoundaryEvent ⟨12500, 0, -400, 849⟩) (counted .normal 90000000 0 0 0)).battery.counters.enclosureFaults = 0 :=
  by decide

/-- SoC 39 in NORMAL: the reading counts the change, and the heater controller has the budget of CONSERVE, 150 (R181);
at SoC 40 it keeps what it had. -/
theorem witness_ReadingsDriveTheStage_change :
    (after (.secondBoundaryEvent (reading 0)) (counted .normal 71999999 0 0 0)).battery.stage = .conserve ∧
    (after (.secondBoundaryEvent (reading 0)) (counted .normal 71999999 0 0 0)).heater.budget = 150 ∧
    (after (.secondBoundaryEvent (reading 0)) (counted .normal 72000000 0 0 0)).heater.budget = 0 := by decide

/-- SoC 39 is CONSERVE, 45 is NORMAL again (R164). -/
theorem test_stage_hysteresis : socTest .normal 40 = .normal ∧ socTest .normal 39 = .conserve ∧
    socTest .conserve 44 = .conserve ∧ socTest .conserve 45 = .normal ∧ socTest .conserve 19 = .reserve ∧
    socTest .reserve 24 = .reserve ∧ socTest .reserve 25 = .conserve := by decide

/-! ### The trunk -/

/-- Eleven bits as 169 samples, sample 1 of the start bit first (R28). -/
def samples (d : Byte) (marker stop : Bool) : BitVec 169 :=
  (List.range 11).foldl (fun w k =>
    let b := if k = 0 then false else if k ≤ 8 then d.getLsbD (k - 1) else if k = 9 then marker else stop
    if b then w ||| (0xFFFF#169 <<< (16 * k)) else w) 0

/-- The receiver is inside a character. -/
def receiving (a : Assembler) : State :=
  withTrunk run (fun t => { t with receiver := .inChar 160 ⟨20, 0⟩, assembler := a })

theorem witness_takesCharacter (a : Assembler) (d : Byte) (m p : Bool) (h : (receiving a).isSettled = true)
    (h7 : (samples d m p).getLsbD 7 = false) : (receiving a).takesCharacter (samples d m p) ⟨20, 0⟩ :=
  ⟨h, ⟨160, rfl⟩, h7, fun _ _ h => by cases h⟩

/-- The samples of one character meet what R28 asks of each of its bits. -/
theorem witness_CharacterReadsBack :
    (∀ (k : Fin 8) (n : Fin 3), (samples 0x64 true true).getLsbD (16 * (k.val + 1) + (n.val + 7) - 1)
      = (0x64 : Byte).getLsbD k.val) ∧
    (∀ n : Fin 3, (samples 0x64 true true).getLsbD (16 * 9 + (n.val + 7) - 1) = true ∧
      (samples 0x64 true true).getLsbD (16 * 10 + (n.val + 7) - 1) = true) ∧
    charData (samples 0x64 true true) = 0x64 ∧ charMarker (samples 0x64 true true) = true ∧
    charStop (samples 0x64 true true) = true := by decide

theorem witness_CharactersAreAssembled : (receiving .noFrame).takesCharacter (samples 0x64 true true) ⟨20, 0⟩ ∧
    FrameKind.ofCode ((charData (samples 0x64 true true)).toNat % 16) = some .onset ∧
    (receiving .discarding).takesCharacter (samples 0x65 true true) ⟨20, 0⟩ :=
  ⟨witness_takesCharacter _ _ _ _ (by decide) (by decide), by decide,
    witness_takesCharacter _ _ _ _ (by decide) (by decide)⟩

/-- A QUERY with one byte of its two. -/
def assembly (body : List Byte) : Assembly := ⟨.query, 15, body, crcOf body, ⟨20, 0⟩⟩

theorem witness_CharactersAreAssembled_body : (assembly [3]).body.length < (assembly [3]).kind.bodyLength ∧
    (receiving (.assembling (assembly [3]))).takesCharacter (samples 0x12 false true) ⟨20, 0⟩ :=
  ⟨by decide, witness_takesCharacter _ _ _ _ (by decide) (by decide)⟩

theorem witness_FramingErrorsCountOnce : (receiving .discarding).isSettled = true ∧
    (samples 0x12 false false).getLsbD 7 = false ∧ charStop (samples 0x12 false false) = false ∧
    (receiving .discarding).readsBackEqual (samples 0x12 false false) ∧
    (withTrunk run (fun t => { t with receiver := .waitRecessive })).isSettled = true :=
  ⟨by decide, by decide, by decide, (fun _ _ h => by cases h), by decide⟩

/-- The line outside a character: its level, its two counts and the receiver. -/
def atLine (dominant : Bool) (timer count : Nat) (receiver : Receiver) : State :=
  withTrunk run (fun t => { t with dominant := dominant, idleTimer := timer, run := count, receiver := receiver })

theorem witness_LineMovesTheReceiver : run.isSettled = true ∧ run.loader.phase ≠ .held ∧
    (receiving .noFrame).isSettled = true ∧ (atLine true 0 3 .hunting).isSettled = true ∧
    (atLine false 0 0 .waitRecessive).isSettled = true ∧ (atLine false 176 0 .off).trunk.line ≠ .idle ∧
    (atLine false 176 0 .off).isSettled = true ∧ (atLine true 0 352 .hunting).isSettled = true ∧
    (atLine true 0 352 .hunting).trunk.line ≠ .fault := by decide

/-- The 175th recessive sample is not yet IDLE, nor the 351st dominant one FAULT (R30, R31). -/
theorem test_line_counts : (after .lineIdle (atLine false 175 0 .hunting)).trunk.line = .busy ∧
    (after .lineIdle (atLine false 176 0 .off)).trunk.line = .idle ∧
    (after .lineIdle (atLine false 176 0 .off)).trunk.receiver = .hunting ∧
    (after .lineFault (atLine true 0 351 .hunting)).trunk.line = .busy ∧
    (after .lineFault (atLine true 0 352 .hunting)).trunk.line = .fault := by decide

/-- A character runs to sample 16 of its stop bit, and its report stands at sample 9: a first recessive sample seven samples
later leaves the idle timer at 0, and one eight samples later is counted (R30). -/
theorem test_stop_bit :
    let taken := run.trunk.endCharacter 0
    (Trunk.sample^[7] { taken with dominant := true }).rise.idleTimer = 0 ∧
    (Trunk.sample^[8] { taken with dominant := true }).rise.idleTimer = 1 ∧
    (Trunk.sample^[7] { taken with dominant := false }).idleTimer = 0 ∧
    (Trunk.sample^[8] { taken with dominant := false }).idleTimer = 1 := by decide

theorem witness_CompleteFramesAreTaken :
    (receiving (.assembling (assembly [3, 0]))).takesCharacter (samples (crcOf [3, 0]) false true) ⟨20, 0⟩ ∧
    (assembly [3, 0]).body.length = (assembly [3, 0]).kind.bodyLength ∧
    charData (samples (crcOf [3, 0]) false true) = (assembly [3, 0]).check ∧
    (charData (samples 0 false true) == (assembly [3, 0]).check) = false :=
  ⟨witness_takesCharacter _ _ _ _ (by decide) (by decide +kernel), by decide, by decide +kernel, by decide +kernel⟩

/-- This station's HEAT: its head is kind 10 of station 13 (R32). -/
def heatFrame : TxFrame := ⟨.heat, [1, 0, 0, 0]⟩

/-- The check character of that HEAT (R35). -/
def heatCheck : Byte := crcOf [0xDA, 1, 0, 0, 0]

/-- That HEAT is being sent, and its body has been received. -/
def ownFrame (run' : TxRun) : State :=
  { withTrunk run (fun t => { t with
      receiver := .inChar 160 ⟨20, 0⟩, own := true, tx := .sending heatFrame run'
      assembler := .assembling ⟨.heat, 13, [1, 0, 0, 0], heatCheck, ⟨20, 0⟩⟩ }) with
    sched := { run.sched with slots := { run.sched.slots with heat := .inFlight { request with ref := .demand 1 } none } } }

/-- An attempt at this position, with these characters taken. -/
def attempt (position chars : Nat) : TxRun := ⟨position, chars, ⟨20, 0⟩, .t4, ⟨20, 0⟩⟩

theorem witness_readsBackEqual (r : TxRun) (w : BitVec 169)
    (h : ∀ k, k < 11 → w.getLsbD (16 * k + 7) = run.sentLevel heatFrame r (11 * r.chars + k)) :
    (ownFrame r).readsBackEqual w := by
  intro f r' e k hk
  cases e
  exact h k hk

theorem witness_CompleteFramesAreTaken_own : (ownFrame (attempt 1000 5)).isSettled = true ∧
    (samples heatCheck false true).getLsbD 7 = false ∧
    (ownFrame (attempt 1000 5)).readsBackEqual (samples heatCheck false true) ∧
    charData (samples heatCheck false true) = heatCheck ∧ heatFrame.characters ≤ 5 + 1 ∧
    (ownFrame (attempt 100 0)).isSettled = true ∧
    (ownFrame (attempt 100 0)).readsBackEqual (samples 0xDA true true) ∧ 0 + 1 < heatFrame.characters :=
  ⟨by decide, by decide +kernel, witness_readsBackEqual _ _ (by decide +kernel), by decide +kernel, by decide, by decide,
    witness_readsBackEqual _ _ (by decide +kernel), by decide⟩

/-- The frame sent whole announces its demand (R178). -/
theorem test_own_frame :
    (after (.characterReceived (samples heatCheck false true)) (ownFrame (attempt 1000 5))).heater.announced = some 1 := by
  decide +kernel

/-- A frame of zeros, with this reference, of which the check character alone is still to come; the record of serial 5 has an
ALERT and an ALERT-RAISE pending, and a REPLY is pending. -/
def lastOf (k : TxKind) (ref : Ref) : State :=
  let body := List.replicate k.frame.bodyLength 0
  { withEvents (withTrunk run (fun t => { t with
      receiver := .inChar 160 ⟨20, 0⟩, own := true, tx := .sending ⟨k, body⟩ (attempt 1000 (body.length + 1))
      assembler := .assembling ⟨k.frame, 13, body, crcOf (BitVec.ofNat 8 (k.frame.code + 16 * 13) :: body), ⟨20, 0⟩⟩ }))
      [{ event ⟨5000, 2000000⟩ with alertOutcome := .pending, raiseOutcome := .pending }] with
    sched := { run.sched with slots := run.sched.slots.set k (.inFlight { request with ref := ref } none) }
    alerts := { run.alerts with tracking := [⟨.alert, 5, .none⟩, ⟨.raise, 5, .none⟩] }
    service := { run.service with pendingReply := some (1, 0) } }

/-- Its check character. -/
def lastCharacter (k : TxKind) : BitVec 169 :=
  samples (crcOf (BitVec.ofNat 8 (k.frame.code + 16 * 13) :: List.replicate k.frame.bodyLength 0)) false true

/-- What each block is told of its frame sent: the ALERT's outcome, the ALERT-RAISE's with the raise-sent report, and the
end of the REPLY (R146, R151, R198). -/
theorem witness_CompleteFramesAreTaken_told : (lastOf .alertRaise (.serial 5)).isSettled = true ∧
    ((lastOf .alertRaise (.serial 5)).event 5).map (fun e => e.outcomeOf .raise) = some .pending ∧
    (lastOf .alertRaise (.serial 5)).alerts.untracked .raise 5 = [⟨.alert, 5, .none⟩] ∧
    (after (.characterReceived (lastCharacter .alertRaise)) (lastOf .alertRaise (.serial 5))).co.waiting = [.raiseSent 5] ∧
    (after (.characterReceived (lastCharacter .alert)) (lastOf .alert (.serial 5))).alerts.counters.alertsSent = 1 ∧
    ((after (.characterReceived (lastCharacter .alert)) (lastOf .alert (.serial 5))).event 5).map (fun e => e.alertOutcome)
      = some .sent ∧
    (after (.characterReceived (lastCharacter .reply)) (lastOf .reply (.query 1 0))).service.pendingReply = none := by
  decide +kernel

/-- Sample 8 of the head's start bit, which is sent dominant, and of its marker, which is sent recessive. -/
theorem witness_AttemptsAreLost : (ownFrame (attempt 7 0)).isSettled = true ∧ (ownFrame (attempt 151 0)).isSettled = true ∧
    (ownFrame (attempt 7 0)).sentLevel heatFrame (attempt 7 0) (7 / 16) = false ∧
    (ownFrame (attempt 151 0)).sentLevel heatFrame (attempt 151 0) (151 / 16) = true ∧
    (ownFrame (attempt 7 0)).sched.slots.get .heat = .inFlight { request with ref := .demand 1 } none ∧
    request.mark = false ∧ request.deadline = none := by decide

/-- TRUNK low in the start bit and in bit 0 of the head, released in bit 1, in the marker and in the stop bit to its last
sample, and low again in the next start bit (R27, R38); a drive fault releases it one sample later (R40). -/
theorem test_trunk_pin : [0, 15, 16, 31, 32, 150, 175, 176].map (fun p => (ownFrame (attempt p 0)).trunkDriven)
      = [true, true, true, true, false, false, false, true] ∧
    (attempt 100 0).taken.position = 168 ∧ ((attempt 168 1).move 5).field ≠ ⟨20, 0⟩ ∧
    ((attempt 175 1).move 5).field ≠ ⟨20, 0⟩ ∧ ((attempt 176 1).move 5).field = ⟨20, 0⟩ ∧
    (after .driveFault (ownFrame (attempt 7 0))).trunkDriven = true ∧
    (withTrunk (after .driveFault (ownFrame (attempt 7 0))) Trunk.sample).trunkDriven = false := by decide

/-- Bit 0 of the head, sent 0, reads 1; bit 1, sent 1, reads 0; and the stop bit reads 0 (R38). -/
theorem witness_AttemptsAreLost_character :
    (∀ j, j < 1 → (samples 0xDB true true).getLsbD (16 * j + 7) = run.sentLevel heatFrame (attempt 0 0) j) ∧
    run.sentLevel heatFrame (attempt 0 0) 1 = false ∧ (samples 0xDB true true).getLsbD (16 * 1 + 7) = true ∧
    (∀ j, j < 2 → (samples 0xD8 true true).getLsbD (16 * j + 7) = run.sentLevel heatFrame (attempt 0 0) j) ∧
    run.sentLevel heatFrame (attempt 0 0) 2 = true ∧ (samples 0xD8 true true).getLsbD (16 * 2 + 7) = false ∧
    (∀ j, j < 10 → (samples 0xDA true false).getLsbD (16 * j + 7) = run.sentLevel heatFrame (attempt 0 0) j) ∧
    run.sentLevel heatFrame (attempt 0 0) 10 = true ∧ (samples 0xDA true false).getLsbD (16 * 10 + 7) = false := by
  decide +kernel

/-! ### The scheduler -/

/-- A slot of ALERT in a running part. -/
def alertSlot (x : Slot) : State := { run with sched := { run.sched with slots := { run.sched.slots with alert := x } } }

/-- A slot of HEAT in a running part at 30.0. -/
def heatSlot (x : Slot) : State :=
  { at' run 30 0 with sched := { run.sched with slots := { run.sched.slots with heat := x } } }

theorem witness_RequestTakesItsSlot : request.attempts = 0 ∧ request.capture = none ∧ request.mark = false ∧
    run.sched.slots.get .alert = .empty ∧ (alertSlot (.ready request)).sched.slots.get .alert = .ready request ∧
    (alertSlot (.inFlight request none)).sched.slots.get .alert = .inFlight request none ∧
    (alertSlot (.inFlight request (some request))).sched.slots.get .alert = .inFlight request (some request) := by decide

/-- A second ONSET before the first has gone out: the first was not sent (R114). -/
theorem test_onset_not_sent :
    let s := run.request .onset [] (.stamp ⟨20, 0⟩) ⟨20, 0⟩ none
    (s.request .onset [] (.stamp ⟨21, 0⟩) ⟨21, 0⟩ none).detector.counters.onsetNotSent = 1 ∧
    s.detector.counters.onsetNotSent = 0 := by decide

theorem witness_FramesAreChosenAndBegun :
    (withTrunk (alertSlot (.ready request)) (fun t => { t with line := .idle })).isSettled = true ∧
    (withTrunk (alertSlot (.inFlight request none)) (fun t => { t with
      tx := .handed ⟨.alert, []⟩ false true })).isSettled = true ∧
    (withTrunk (alertSlot (.inFlight request none)) (fun t => { t with
      tx := .handed ⟨.alert, []⟩ true true })).isSettled = true := by decide

/-- No slot comes before that of ALERT (R32). -/
theorem test_priority : txPriority = [.alert, .alertRaise, .onset, .coda, .beacon, .heat, .reply] := by decide

theorem witness_FramesReturnOrAreWithdrawn :
    (alertSlot (.inFlight { request with mark := true } none)).sched.slots.get .alert
      = .inFlight { request with mark := true } none ∧
    (alertSlot (.inFlight { request with deadline := some ⟨0, 0⟩ } none)).clock.time.diff ⟨0, 0⟩ = 0 ∧
    (alertSlot (.inFlight { request with ref := .serial 4 } (some request))).sched.slots.alert
      = .inFlight { request with ref := .serial 4 } (some request) ∧ request.ref = .serial 5 := by decide

/-- The record of serial 5 has an ALERT and an ALERT-RAISE pending, and the slot of a kind holds this. -/
def pendingIn (j : AlertKind) (x : Slot) : State :=
  { withEvents run [{ event ⟨5000, 2000000⟩ with alertOutcome := .pending, raiseOutcome := .pending }] with
    sched := { run.sched with slots := run.sched.slots.set j.holder x }
    alerts := { run.alerts with tracking := [⟨.alert, 5, .none⟩, ⟨.raise, 5, .none⟩] } }

/-- A withdrawal of either kind, READY, waiting behind another record's frame, in flight, and held nowhere (R70). -/
theorem witness_FramesReturnOrAreWithdrawn_kinds : ∀ j : AlertKind, j = .alert ∨ j = .raise →
    ((pendingIn j (.ready request)).event 5).map (fun e => e.outcomeOf j) = some .pending ∧
    ((pendingIn j (.ready request)).withdraw j 5 .yield).sched.slots.get j.holder = .empty ∧
    (((pendingIn j (.ready request)).withdraw j 5 .yield).event 5).map (fun e => e.outcomeOf j) = some .yielded ∧
    ((pendingIn j (.inFlight { request with ref := .serial 4 } (some request))).withdraw j 5 .lapse).sched.slots.get j.holder
      = .inFlight { request with ref := .serial 4 } none ∧
    ((pendingIn j (.inFlight request none)).withdraw j 5 .lapse).sched.slots.get j.holder
      = .inFlight { request with mark := true } none ∧
    (((pendingIn j (.inFlight request none)).withdraw j 5 .lapse).event 5).map (fun e => e.outcomeOf j) = some .pending ∧
    ((pendingIn j .empty).withdraw j 5 .lapse).alerts = (pendingIn j .empty).alerts := by
  rintro j (rfl | rfl) <;> decide

theorem witness_DeadlinesExpireRequests :
    (heatSlot (.ready { request with deadline := some ⟨30, 0⟩ })).isSettled = true ∧
    (heatSlot (.ready { request with deadline := some ⟨30, 0⟩ })).clock.time.diff ⟨30, 0⟩ = 0 ∧
    (heatSlot (.inFlight request (some { request with deadline := some ⟨30, 0⟩ }))).isSettled = true := by decide

/-- The candidate point of station 13 at 16.6,500,000, a multiple of the period 8, and in CONSERVE one that is none of
16. -/
theorem witness_BeaconsAreRequestedAtTheirPoints : (at' run 16 6500000).isSettled = true ∧
    (16 : BitVec 32).toNat % (at' run 16 6500000).stagePeriod = 0 ∧
    (24 : BitVec 32).toNat % run.loader.profile.beaconPeriod = 0 ∧
    (24 : BitVec 32).toNat % ({ run with battery := { run.battery with stage := .conserve } } : State).stagePeriod ≠ 0 ∧
    (after .beaconCandidatePoint (at' run 16 6500000)).sched.lastCandidate = some ⟨16, 6500000⟩ := by decide

/-! ### The peer table -/

theorem witness_takesEntry (k : FrameKind) (body : List Byte) (h : (withEntry run k body).isSettled = true) :
    (withEntry run k body).takesEntry ⟨k, 3, body, ⟨20, 0⟩⟩ [] := ⟨h, rfl, rfl, rfl⟩

/-- Senders of every test of R48: the own number, 14 and 15, one outside the peer set, and one that passes. -/
theorem witness_FramesAreFilteredAndHandedOn : (withEntry run .reply []).isSettled = true ∧
    (13 : BitVec 4).toNat = run.loader.station.val ∧ 14 ≤ (14 : BitVec 4).toNat ∧
    (3 : BitVec 4).toNat < 14 ∧ (3 : BitVec 4).toNat ≠ run.loader.station.val ∧
    run.loader.profile.peerSet.getLsbD 3 = true ∧ (0x3FF7 : BitVec 14).getLsbD 3 = false ∧
    (withEntry run .alert []).isSettled = true ∧ (withEntry run .alertRaise []).isSettled = true := by decide

theorem witness_passes : (withEntry run .beacon []).passes ⟨.beacon, 3, [], ⟨20, 0⟩⟩ := by
  refine ⟨?_, ?_, ?_⟩ <;> decide

/-- A BEACON of class T0 that left at 19.9,998,000, and one that left a cycle earlier. -/
def beacon (sub : BitVec 24) : List Byte :=
  [19, 0, 0, 0, sub.extractLsb' 0 8, sub.extractLsb' 8 8, sub.extractLsb' 16 8, 0, 50, 0]

theorem witness_BeaconsAndHeatsWriteTheirRow :
    (withClock (withEntry run .beacon (beacon 9998000)) (fun c => { c with state := .locked })).isSettled = true ∧
    (beaconPart ⟨.beacon, 3, beacon 9998000, ⟨20, 0⟩⟩).offset = 2000 ∧ (withEntry run .heat [1, 0, 0, 0]).isSettled = true := by
  decide

theorem witness_BeaconsBeginPeerSteering : (withEntry run .beacon (beacon 9998000)).isSettled = true ∧
    (beaconPart ⟨.beacon, 3, beacon 9998000, ⟨20, 0⟩⟩).offset.natAbs ≤ 2000 ∧
    2000 < (beaconPart ⟨.beacon, 3, beacon 9997999, ⟨20, 0⟩⟩).offset.natAbs ∧
    (beaconPart ⟨.beacon, 3, beacon 9997999, ⟨20, 0⟩⟩).cls = .t0 ∧
    (beaconPart ⟨.beacon, 3, beacon 9997999, ⟨20, 0⟩⟩).stale = false ∧
    (after .inboundBeacon (withEntry run .beacon (beacon 9997999))).clock.log.map (fun x => x.size) = [-2001] := by decide

/-- A BEACON of class T4 that had left at 19.9,998,000. -/
def lost : List Byte := (beacon 9998000).set 7 4

/-- The only peer's BEACON of a class that does not qualify ends the steering (R21); a qualifying one begins it in
HOLDOVER, or starts the interval that was pending (R19, R20). -/
theorem witness_BeaconsBeginPeerSteering_states :
    let steering := withClock (withEntry run .beacon (beacon 9998000)) (fun c => { c with
      state := .peerSteered, interval := .peer 0 ⟨20, 0⟩, steeringClass := some .t1, restartPending := true })
    let leaving := { steering with peers := { steering.peers with queue := [⟨.beacon, 3, lost, ⟨20, 0⟩⟩] } }
    let held := withClock steering (fun c => { c with state := .holdover, interval := .none, restartPending := false })
    steering.isSettled = true ∧ leaving.isSettled = true ∧ held.isSettled = true ∧
    (after .inboundBeacon steering).clock.interval = .peer 2000 ⟨0, 0⟩ ∧
    (after .inboundBeacon leaving).clock.state = .holdover ∧
    (after .inboundBeacon held).clock.state = .peerSteered := by decide

/-- An ONSET or a CODA of the onset 20.0, of class T2. -/
def onsetBytes : List Byte := [20, 0, 0, 0, 0, 0, 0, 2, 71, 0, 0, 0, 0, 0, 1]

theorem witness_OnsetsAndCodasWriteTheirRow : (withEntry run .onset onsetBytes).isSettled = true ∧
    (withRow (withEntry run .onset onsetBytes) 3 ⟨none, some (part ⟨20, 0⟩), none⟩).isSettled = true ∧
    (at' (withEntry run .onset onsetBytes) 110 0).isSettled = true ∧
    Time.diff ⟨110, 0⟩ ⟨20, 0⟩ = 10000000 * (run.loader.profile.E : Int) ∧
    (withRow (withEntry run .coda onsetBytes) 3 ⟨none, some (part ⟨20, 0⟩), none⟩).isSettled = true := by decide

/-- A late onset by one cycle, and one that is not late (R55). -/
theorem test_onset_late :
    (after .inboundOnset (at' (withEntry run .onset onsetBytes) 110 1)).peers.counters.late = 1 ∧
    (after .inboundOnset (at' (withEntry run .onset onsetBytes) 110 0)).co.waiting.length = 1 := by decide

/-- A QUERY of topic 0, page 0, to station 13, and one of a topic that is refused. -/
theorem witness_QueriesAreAnswered : (withEntry run .query [0x0D, 0]).isSettled = true ∧
    field [0x0D, 0] 0 1 % 16 = run.loader.station.val ∧ indexAccepted 0 0 = true ∧ indexAccepted 14 0 = false ∧
    field [0x0C, 0] 0 1 % 16 ≠ run.loader.station.val ∧
    ({ withEntry run .query [0x0D, 0] with service := { run.service with pendingReply := some (0, 0) } } :
      State).isSettled = true := by decide

/-- The last index of each topic with more than one, and the next (R196, R204). -/
theorem test_index_limits : indexAccepted 2 3 = true ∧ indexAccepted 2 4 = false ∧ indexAccepted 4 7 = true ∧
    indexAccepted 4 8 = false ∧ indexAccepted 5 13 = true ∧ indexAccepted 5 14 = false ∧ indexAccepted 8 7 = true ∧
    indexAccepted 8 8 = false ∧ indexAccepted 9 0 = false := by decide

theorem witness_AgedPartsBecomeAbsent :
    ({ run with peers := { run.peers with conflict := true } } : State).nextLimit = some .conflict ∧
    (withRow run 3 ⟨none, none, some ⟨0, 0, 180⟩⟩).nextLimit = some (.heatPart 3) ∧
    (withRow run 3 ⟨none, some { part ⟨20, 0⟩ with lapsed := true }, none⟩).nextLimit = some (.triggerPart 3) ∧
    (withRow run 3 ⟨some { timed .t0 0 with age := 48 }, none, none⟩).nextLimit = some (.timePart 3) := by decide

/-! ### Sample intake and detection -/

/-- The intake with a port frame of this many bits open. -/
def frame (n : Nat) : State := { run with intake := { run.intake with frame := some n } }

theorem witness_SetsEnterAndLeaveTheStore_port : run.isSettled = true ∧ run.battery.loadoff = false ∧
    run.intake.frame = none ∧ (frame 0).isSettled = true ∧ (frame 71).isSettled = true := by decide

/-- A port frame that closes one bit short is incomplete, and a whole one is not (R79). -/
theorem test_port_frame : (after .portFrameClose (frame 71)).intake.counters.incomplete = 1 ∧
    (after .portFrameClose (frame 72)).intake.counters.incomplete = 0 ∧
    (after (.setArrival ((0x800000#24 ++ 1#24) ++ 0xFFFFFF#24)) (frame 0)).intake.store.map (fun e => e.values)
      = [⟨-8388608, 1, -1⟩] := by decide

/-- A tick point at 20.0,100,000 in RUNNING. -/
def ticking (store : List SetEntry) : State :=
  at' { run with intake := { run.intake with state := .running, store := store, last := some ⟨⟨1, 2, 3⟩, ⟨20, 0⟩⟩ } } 20 100000

theorem witness_atTick (store : List SetEntry) : (ticking store).atTick ⟨20, 100000⟩ := by
  refine ⟨by show 100000 % 100000 < 1; decide, by show _ = Time.mk 20 (100000 - 100000 % 100000); decide, fun q h => ?_⟩
  exact absurd h (by simp [ticking, at', run, State.reset, Intake.reset])

theorem witness_SetsEnterAndLeaveTheStore_tick : (ticking []).isSettled = true ∧
    (ticking [⟨⟨1, 2, 3⟩, ⟨20, 0⟩, 0⟩]).isSettled = true ∧ (at' run 20 100000).isSettled = true ∧
    (after .tick (ticking [])).intake.last = some ⟨⟨1, 2, 3⟩, ⟨20, 100000⟩⟩ := by decide

/-- The detector in a state, its averages those of section 6.8 before the third set. -/
def detecting (x : DetectorState) : State :=
  { run with
    intake := { run.intake with state := .running }
    detector := { run.detector with state := x, S := 458000, L := 130748 } }

theorem witness_QuietSetsUpdateTheAverages : (detecting .warmup).intake.state = .running ∧
    (detecting .warmup).battery.stage ≠ .shed ∧ (detecting .holdoff).detector.state = .holdoff ∧
    16 * ((detecting .armed).handSet ⟨⟨0, 0, 0⟩, ⟨20, 0⟩⟩ false).detector.S <
      run.loader.profile.rOn * max ((detecting .armed).handSet ⟨⟨0, 0, 0⟩, ⟨20, 0⟩⟩ false).detector.L
        (run.loader.profile.floor * 256) := by decide

/-- In TRIGGERED with this record, the averages before the set being those of `detecting`, or S being 0. -/
def triggering (r : TriggerRecord) (S : Nat) : State :=
  { detecting .triggered with detector := { (detecting .triggered).detector with record := some r, S := S } }

/-- A trigger whose onset was 20.0, at this peak. -/
def trigger (peak : Nat) : TriggerRecord := ⟨⟨20, 0⟩, .t2, false, false, 71, peak, 0, 5, false, .absent⟩

/-- The set of section 6.8 in TRIGGERED: L stands, and the off test is far from passing (R98, R109). -/
theorem witness_QuietSetsUpdateTheAverages_stays : (triggering (trigger 6000) 458000).arithmetic ⟨6005, 0, 0⟩
      { (triggering (trigger 6000) 458000).detector with dcZ := 1501, S := 592750, ratio := 72 } 6000 ∧
    (triggering (trigger 6000) 458000).openEvent = none ∧
    run.loader.profile.rOff * max 130748 (run.loader.profile.floor * 256) ≤ 16 * 592750 := by
  refine ⟨⟨by decide, by decide, by decide, by decide, by decide, fun h => ?_, fun _ _ => rfl, by decide⟩, by decide⟩
  rcases h with h | h <;> cases h

/-- A set of zeros with S at 0 passes the off test (R109). -/
theorem witness_QuietSetsUpdateTheAverages_ends : (triggering (trigger 6000) 0).arithmetic ⟨0, 0, 0⟩
      { (triggering (trigger 6000) 0).detector with ratio := 0 } 0 ∧
    16 * 0 < run.loader.profile.rOff * max 130748 (run.loader.profile.floor * 256) ∧
    (triggering (trigger 6000) 0).sched.slots.coda = .empty ∧
    ((triggering (trigger 6000) 0).handSet ⟨⟨0, 0, 0⟩, ⟨20, 0⟩⟩ false).detector.state = .holdoff := by
  refine ⟨⟨by decide, by decide, by decide, by decide, by decide, fun h => ?_, fun _ _ => rfl, by decide⟩, by decide⟩
  rcases h with h | h <;> cases h

/-- An open record of level 1 that holds this station's onset of 20.0. -/
def mine : Event := { event ⟨20, 0⟩ with members := (Vector.replicate 14 none).set 13 (some ⟨20, 0⟩) }

/-- At a peak of exactly the strong threshold the report is made, and it requests an ALERT-RAISE (R108, R151). -/
theorem witness_QuietSetsUpdateTheAverages_strong :
    (withEvents (triggering (trigger 1000000) 458000) [mine]).isStrong ((trigger 1000000).after 6000) mine ∧
    mine.raiseOutcome = .none ∧ run.sched.slots.alertRaise = .empty ∧
    ((withEvents (triggering (trigger 1000000) 458000) [mine]).handSet ⟨⟨6005, 0, 0⟩, ⟨20, 0⟩⟩ false).co.events.map
      (fun e => e.raiseOutcome) = [.pending] ∧
    ((withEvents (triggering (trigger 999999) 458000) [mine]).handSet ⟨⟨6005, 0, 0⟩, ⟨20, 0⟩⟩ false).co.events.map
      (fun e => e.raiseOutcome) = [.none] ∧
    ((withEvents (triggering (trigger 1000000) 458000) [{ mine with raiseOutcome := .sent }]).handSet
      ⟨⟨6005, 0, 0⟩, ⟨20, 0⟩⟩ false).alerts.counters.declinedStrong = 1 := by
  refine ⟨⟨rfl, ?_, ?_, rfl, ?_⟩, ?_⟩ <;> decide

/-- The set that finds the detector HALTED seeds the estimates and is the first of warm-up (R102). -/
theorem test_seed : ((detecting .halted).handSet ⟨⟨4, 0, -2⟩, ⟨20, 0⟩⟩ false).detector.dcZ = 1024 ∧
    ((detecting .halted).handSet ⟨⟨4, 0, -2⟩, ⟨20, 0⟩⟩ false).detector.dcE = -512 ∧
    ((detecting .halted).handSet ⟨⟨4, 0, -2⟩, ⟨20, 0⟩⟩ false).detector.warmup = 1 := by decide

/-- The third set of section 6.8, its deviation 6000 on Z (6006 less the DC estimate it brings to 5). -/
theorem witness_OnsetSetsTrigger : (detecting .armed).arithmetic ⟨6005, 0, 0⟩
      { (detecting .armed).detector with dcZ := 1501, S := 592750, L := 132120, ratio := 71 } 6000 ∧
    run.loader.profile.rOn * max 132120 (run.loader.profile.floor * 256) ≤ 16 * 592750 ∧
    (detecting .armed).sched.slots.onset = .empty ∧ (detecting .armed).heater.triggered = false := by
  refine ⟨⟨by decide, by decide, by decide, by decide, by decide, fun _ => by decide, fun _ h => absurd rfl h, by decide⟩, ?_⟩
  decide

theorem witness_DetectorLimitsAndStalls : 2 ^ run.loader.profile.sLong ≤ 1024 ∧ run.loader.profile.holdoff * 100 ≤ 200 ∧
    ({ run with intake := { run.intake with state := .running, empty := 10 } } : State).nextLimit = some .stall := by
  decide

/-- A trigger of the maximum duration, 300 s (R110). -/
def longTrigger : State :=
  { run with detector := { run.detector with
      state := .triggered
      record := some ⟨⟨20, 0⟩, .t2, false, false, 71, 6000, 0, 30000, false, .absent⟩ } }

/-- Ten empty ticks with a trigger one set short of the maximum stall; at the maximum the forced end comes first
(R94, R107, R110). -/
theorem witness_DetectorLimitsAndStalls_trigger :
    let s : Nat → State := fun n => { longTrigger with
      intake := { run.intake with state := .running, empty := 10 }
      detector := { longTrigger.detector with record := longTrigger.detector.record.map (fun r => { r with duration := n }) } }
    (s 29999).nextLimit = some .stall ∧ (s 29999).sched.slots.coda = .empty ∧ (s 30000).nextLimit = some .forced ∧
    (s 29999).settle.detector.counters.haltedEnds = 1 ∧
    (s 30000).settle.detector.record.map (fun r => r.reason) = some .forced ∧
    (s 29999).settle.detector.record.map (fun r => r.reason) = some .halted ∧
    (s 30000).settle.detector.state = .halted := by decide

theorem witness_DetectorLimitsAndStalls_forced : longTrigger.nextLimit = some .forced ∧
    longTrigger.loader.profile.maxDuration * 100 ≤ 30000 ∧ longTrigger.sched.slots.coda = .empty := by decide

/-! ### The coincidence unit and the alerts -/

theorem witness_takesRequest (s : State) (r : CoRequest) (h : (withRequest s r).isSettled = true)
    (h2 : s.loader.phase = .running) : (withRequest s r).takesRequest r [] := ⟨h, h2, rfl⟩

/-- The table of station 3 in section 7.8, its vote anchored at station 12's onset. -/
def quake (rows : List (Station × TimeClass × Time)) : State :=
  rows.foldl (fun s x => withRow s x.1 ⟨none, some { part x.2.2 with cls := x.2.1 }, none⟩)
    (withRequest ({ at' run 5001 5700000 with
      loader := { run.loader with station := 3, profile := { run.loader.profile with V := 4 } } })
      (.vote .peerTable 12 ⟨5001, 5000000⟩))

/-- Station 3 holds the onsets of 3, 5 and 12. -/
def quake3 : State := quake [(3, .t0, ⟨5000, 2000000⟩), (5, .t2, ⟨5000, 4000000⟩), (12, .t2, ⟨5001, 5000000⟩)]

/-- Station 3's own onset, the origin. -/
def first : Member := ⟨3, { part ⟨5000, 2000000⟩ with cls := .t0 }⟩

/-- The same vote with an earlier event closed: at the origin itself, so that it folds (R125, R127). -/
def folding : State := withEvents quake3 [{ event ⟨5000, 2000000⟩ with isOpen := false }]

/-- The same vote with an event open since second 4000, whose span has passed (R130). -/
def replacing : State := withEvents quake3 [event ⟨4000, 0⟩]

theorem witness_votes (l : List Event) (h : (withEvents quake3 l).isSettled = true)
    (ho : ∀ e, (withEvents quake3 l).openEvent = some e →
      10000000 * (quake3.loader.profile.E : Int) < Time.diff ⟨5001, 5000000⟩ e.origin) :
    (withEvents quake3 l).votes .peerTable 12 ⟨5001, 5000000⟩ [] :=
  ⟨⟨h, rfl, rfl⟩, ⟨part ⟨5001, 5000000⟩, by show (quake3.peers.row 12).trigger = _; decide, rfl, rfl, rfl, by decide,
    by decide⟩, fun e he => .inr (ho e he)⟩

theorem witness_VotesDeclareEvents : quake3.votes .peerTable 12 ⟨5001, 5000000⟩ [] ∧
    quake3.loader.profile.V = weightSum (quake3.candidateSet ⟨5001, 5000000⟩) ∧
    isOrigin (quake3.candidateSet ⟨5001, 5000000⟩) first ∧ quake3.co.events = [] ∧ quake3.closesQuietly ∧
    weightSum ((quake [(12, .t2, ⟨5001, 5000000⟩)]).candidateSet ⟨5001, 5000000⟩) < quake3.loader.profile.V := by
  refine ⟨witness_votes [] (by decide) (fun e h => by cases h), by decide, ?_, by decide, (fun e h => by cases h),
    by decide⟩
  unfold isOrigin
  decide

theorem witness_VotesDeclareEvents_fold : folding.votes .peerTable 12 ⟨5001, 5000000⟩ [] ∧
    (nearestRecord folding.loader.profile first.part.onset folding.co.events).map (fun e => e.serial) = some 5 ∧
    (after .vote folding).co.counters.folds = 1 ∧ (after .vote folding).co.events.length = 1 :=
  ⟨witness_votes _ (by decide) (fun e h => by cases h), by decide, by decide, by decide⟩

theorem witness_VotesDeclareEvents_replacement : replacing.votes .peerTable 12 ⟨5001, 5000000⟩ [] ∧
    (∀ x ∈ replacing.co.events, 1000000 * replacing.loader.profile.W < (x.origin.diff first.part.onset).natAbs) ∧
    (∀ x ∈ replacing.co.events, x.serial ≠ replacing.co.serial) ∧ replacing.closesQuietly ∧
    (after .vote replacing).co.events.map (fun e => e.isOpen) = [true, false] := by
  refine ⟨witness_votes _ (by decide) (fun e h => ?_), by decide, by decide, fun e h => ?_, by decide⟩
  · cases h
    decide
  · cases h
    exact ⟨by decide, by decide, by decide, fun h => by cases h⟩

/-- A ninth record removes the oldest of eight (R129, R150). -/
theorem test_eight_records :
    let s := withEvents quake3 ((List.range 8).map (fun k => { event ⟨1000, k⟩ with
      isOpen := false, serial := BitVec.ofNat 8 (k + 1) }))
    (after .vote s).co.events.map (fun e => e.serial) = [0, 1, 2, 3, 4, 5, 6, 7] := by decide

/-- Station 12, the last of three, defers its ALERT by twice D (R143, R145). -/
theorem test_deference :
    (after .vote { quake3 with loader := { quake3.loader with station := 12 } }).alerts.deference
      = some ⟨0, Time.add ⟨5001, 5700000⟩ 4000000⟩ := by decide

/-- Station 3's record in section 7.8: serial 0, origin 3, weight 4, contributors 3, 5 and 12, and its ALERT at rank 0. -/
theorem test_worked_declaration :
    (after .vote quake3).co.events.map (fun e => (e.serial, e.originStation, e.weight, e.contributors))
      = [(0, 3, 4, 0b1000000101000)] ∧
    (after .vote quake3).co.events.map (fun e => e.alertOutcome) = [.pending] ∧
    (after .vote quake3).co.events.map (fun e => e.rank 5) = [1] := by decide

/-- Station 12 misses station 5's onset, and its sum of 3 declares nothing (section 7.8). -/
theorem test_worked_no_event :
    (after .vote (quake [(3, .t0, ⟨5000, 2000000⟩), (12, .t2, ⟨5001, 5000000⟩)])).co.events = [] := by decide

theorem witness_VotesJoinOrAreDropped :
    (withRequest run (.vote .detector 3 ⟨20, 0⟩)).isSettled = true ∧ (run.peers.row 3).trigger = none ∧
    (withEvents quake3 [event ⟨5000, 2000000⟩]).isSettled = true ∧
    (withEvents quake3 [event ⟨5000, 2000000⟩]).openEvent.isSome = true ∧
    -(1000000 * (quake3.loader.profile.W : Int)) ≤ Time.diff ⟨5001, 5000000⟩ ⟨5000, 2000000⟩ ∧
    Time.diff ⟨5001, 5000000⟩ ⟨5000, 2000000⟩ ≤ 10000000 * (quake3.loader.profile.E : Int) := by decide

/-- Both ends of an event's span take an anchor in, and a cycle beyond them does not (R123). -/
theorem test_span_ends : inSpan Profile.builtIn ⟨100, 0⟩ ⟨98, 0⟩ = true ∧ inSpan Profile.builtIn ⟨100, 0⟩ ⟨97, 9999999⟩ = false ∧
    inSpan Profile.builtIn ⟨100, 0⟩ ⟨190, 0⟩ = true ∧ inSpan Profile.builtIn ⟨100, 0⟩ ⟨190, 1⟩ = false := by decide

theorem witness_NearestRecordMatches :
    (nearestRecord Profile.builtIn ⟨20, 0⟩ [event ⟨22, 0⟩, event ⟨19, 0⟩]).map (fun e => e.origin) = some ⟨19, 0⟩ ∧
    (nearestRecord Profile.builtIn ⟨20, 0⟩ [event ⟨21, 0⟩, event ⟨19, 0⟩]).map (fun e => e.origin) = some ⟨21, 0⟩ ∧
    nearestRecord Profile.builtIn ⟨20, 0⟩ [event ⟨22, 1⟩] = none := by decide

/-- The ALERT of station 3 in section 7.8: origin 5000.2 of station 3, level 1, contributors 3, 5, 12, weight 4; as an
ALERT-RAISE its last three bytes are a peak. -/
def alertBytes : List Byte := [0x88, 0x13, 0, 0, 0x80, 0x84, 0x1E, 0x13, 0x28, 0x10, 4]

/-- That ALERT waits, with these records in the list. -/
def heard (l : List Event) : State := withEvents (withRequest run (.heardAlert 3 alertBytes)) l

theorem witness_HeardAlertsMatchOrAreAdopted : (heard []).isSettled = true ∧ (readHeard alertBytes).badAlert = false ∧
    (readHeard alertBytes).origin = ⟨5000, 2000000⟩ ∧ (heard []).openEvent = none ∧
    (heard [event ⟨5000, 2000000⟩]).isSettled = true ∧
    ((heard [event ⟨5000, 2000000⟩]).event 5).map (fun e => e.alertOutcome) = some .none ∧
    (readHeard (alertBytes.set 7 0x1E)).badAlert = true ∧ (readHeard (alertBytes.set 7 0x33)).badAlert = true := by decide

/-- An ALERT of no record, with one eligible part in its span: at second 5090.2, the last within E of the origin; and
the same with an event open since second 4000 (R119, R130, R137). -/
theorem witness_HeardAlertsMatchOrAreAdopted_adoption :
    (withRow (heard []) 5 ⟨none, some (part ⟨5090, 2000000⟩), none⟩).isSettled = true ∧
    ((withRow (heard []) 5 ⟨none, some (part ⟨5090, 2000000⟩), none⟩).spanSet ⟨5000, 2000000⟩).map (fun m => m.station)
      = [5] ∧
    (withRow (heard []) 5 ⟨none, some (part ⟨5090, 2000001⟩), none⟩).spanSet ⟨5000, 2000000⟩ = [] ∧
    (heard []).closesQuietly ∧ (heard [event ⟨4000, 0⟩]).isSettled = true ∧ (heard [event ⟨4000, 0⟩]).closesQuietly ∧
    nearestRecord run.loader.profile ⟨5000, 2000000⟩ (heard [event ⟨4000, 0⟩]).co.events = none := by
  refine ⟨by decide, by decide, by decide, (fun e h => by cases h), by decide, fun e h => ?_, by decide⟩
  cases h
  exact ⟨by decide, by decide, by decide, fun h => by cases h⟩

/-- Station 8 adopts that ALERT: an open, adopted record of weight 4 (section 7.8). -/
theorem test_worked_adoption :
    (after .heardAlert (heard [])).co.events.map (fun e => (e.adopted, e.isOpen, e.weight, e.contributors))
      = [(true, true, 4, 0b1000000101000)] ∧
    (after .heardAlert (heard [])).alerts.annState = .waiting := by decide

/-- A deferring record, with its timer. -/
def deferring : State :=
  { heard [{ event ⟨5000, 2000000⟩ with alertOutcome := .deferring }] with
    alerts := { run.alerts with deference := some ⟨5, ⟨5001, 0⟩⟩ } }

theorem witness_HeardAlertsMatchOrAreAdopted_deferring : deferring.isSettled = true ∧
    (after .heardAlert deferring).co.events.map (fun e => e.alertOutcome) = [.yielded] ∧
    (after .heardAlert deferring).alerts.deference = none := by decide

/-- A pending ALERT of the matched record, READY and in flight (R147). -/
theorem witness_HeardAlertsMatchOrAreAdopted_pending :
    (withRequest (pendingIn .alert (.ready request)) (.heardAlert 3 alertBytes)).isSettled = true ∧
    (withRequest (pendingIn .alert (.inFlight request none)) (.heardAlert 3 alertBytes)).isSettled = true ∧
    (nearestRecord run.loader.profile ⟨5000, 2000000⟩ (pendingIn .alert .empty).co.events).map (fun e => e.serial) = some 5 ∧
    (after .heardAlert (withRequest (pendingIn .alert (.ready request)) (.heardAlert 3 alertBytes))).co.events.map
      (fun e => (e.alertOutcome, e.raiseOutcome)) = [(.yielded, .pending)] ∧
    (after .heardAlert (withRequest (pendingIn .alert (.inFlight request none)) (.heardAlert 3 alertBytes))).alerts.tracking
      = [⟨.alert, 5, .yield⟩, ⟨.raise, 5, .none⟩] := by decide

/-- A pending ALERT-RAISE of the matched record, READY and in flight (R152). -/
theorem witness_RaisesAndPeaksReachTheirRecord_pending :
    (withRequest (pendingIn .raise (.ready request)) (.heardRaise 3 alertBytes)).isSettled = true ∧
    (after .heardAlertRaise (withRequest (pendingIn .raise (.ready request)) (.heardRaise 3 alertBytes))).co.events.map
      (fun e => (e.alertOutcome, e.raiseOutcome, e.level)) = [(.pending, .yielded, 2)] ∧
    (after .heardAlertRaise (withRequest (pendingIn .raise (.inFlight request none)) (.heardRaise 3 alertBytes))).alerts.tracking
      = [⟨.alert, 5, .none⟩, ⟨.raise, 5, .yield⟩] := by decide

theorem witness_RaisesAndPeaksReachTheirRecord :
    (withEvents (withRequest run (.heardRaise 3 alertBytes)) [event ⟨5000, 2000000⟩]).isSettled = true ∧
    (withEvents (withRequest run (.heardRaise 3 alertBytes)) []).isSettled = true ∧
    (withEvents (withRequest run (.peak .detector 3 ⟨5000, 2000000⟩ 7)) [event ⟨5000, 2000000⟩]).isSettled = true ∧
    (event ⟨5000, 2000000⟩).members[3] = some ⟨5000, 2000000⟩ ∧
    (withEvents (withRequest run (.raiseSent 5)) [event ⟨5000, 2000000⟩]).isSettled = true := by decide

/-- The record's 90 s have just passed. -/
def closing : State := withEvents (at' run 90 0) [event ⟨0, 0⟩]

theorem witness_EventsCloseAtTheirTime : closing.isSettled = true ∧
    (0 : Int) ≤ closing.clock.time.diff ((event ⟨0, 0⟩).declaredAt.add (10000000 * run.loader.profile.E : Nat)) ∧
    CoRequest.closing 5 ∉ closing.co.waiting ∧ (withRequest closing (.closing 5)).isSettled = true ∧
    (withEvents (withRequest run (.closing 5)) [{ event ⟨0, 0⟩ with isOpen := false }]).isSettled = true := by decide

/-- A closing with an ALERT that is READY and an ALERT-RAISE held nowhere, with one in flight, and with a deference timer
(R149). -/
theorem witness_EventsCloseAtTheirTime_outcomes :
    (withRequest (pendingIn .alert (.ready request)) (.closing 5)).isSettled = true ∧
    (after .closingExpiry (withRequest (pendingIn .alert (.ready request)) (.closing 5))).co.events.map
      (fun e => (e.isOpen, e.alertOutcome, e.raiseOutcome)) = [(false, .lapsed, .pending)] ∧
    (after .closingExpiry (withRequest (pendingIn .raise (.inFlight request none)) (.closing 5))).alerts.tracking
      = [⟨.alert, 5, .none⟩, ⟨.raise, 5, .lapse⟩] ∧
    (withRequest deferring (.closing 5)).isSettled = true ∧
    (after .closingExpiry (withRequest deferring (.closing 5))).alerts.deference = none ∧
    (pendingIn .alert .empty).openEvent.map (fun e => e.serial) = some 5 := by decide

theorem witness_DeferenceEndsInAnAlert :
    (withClock { deferring with co := { deferring.co with waiting := [] } } (fun c => { c with
      time := ⟨5001, 0⟩ })).isSettled = true ∧ deferring.sched.slots.alert = .empty ∧
    Time.diff ⟨5001, 0⟩ ⟨5001, 0⟩ = 0 := by decide

/-- PLAYING at slot 0 of the first pattern, at a quarter second; and at its last slot, with an event open. -/
def playing (slot : Nat) : State :=
  { withEvents (at' run 20 2500000) [event ⟨0, 0⟩] with
    alerts := { run.alerts with annState := .playing, slot := slot, level := 1 } }

theorem witness_QuarterSecondsMoveTheAnnunciator : (playing 0).isSettled = true ∧ (playing 7).isSettled = true ∧
    0 + 1 < (run.loader.profile.pattern 1).2 ∧ (run.loader.profile.pattern 1).2 ≤ 7 + 1 ∧
    (playing 7).openEvent.isSome = true ∧ (after .annunciatorSlot (playing 0)).alerts.slot = 1 ∧
    (after .annunciatorSlot (playing 7)).alerts.slot = 0 := by decide

/-! ### The battery monitor and the heater controller -/

theorem witness_FullResyncFillsTheCharge :
    ({ run with battery := { run.battery with full := 600 } } : State).nextLimit = some .resync ∧
    0 < run.loader.profile.capacity ∧
    (after .fullResync { run with battery := { run.battery with full := 600, testsDue := true, stage := .reserve
                                                                voltage := some 14400 } }).battery.stage = .conserve ∧
    (after .fullResync { run with battery := { run.battery with full := 600, testsDue := true, stage := .conserve
                                                                voltage := some 14400 } }).heater.budget = 300 := by
  decide

theorem witness_ShedIsEnteredAndLeft :
    ({ run with battery := { run.battery with low := 10 } } : State).nextLimit = some .shedEntry ∧
    ({ longTrigger with battery := { run.battery with low := 10 } } : State).battery.stage ≠ .shed ∧
    longTrigger.sched.slots.coda = .empty ∧
    ((after .shedEntry { longTrigger with battery := { run.battery with low := 10 } }).detector.record.map
      (fun r => r.reason)) = some .halted ∧
    ({ run with battery := { run.battery with stage := .shed, recovery := 60 } } : State).nextLimit = some .shedExit := by
  decide

/-- Station 7 of section 10.7 at second 4,320, its last announced demand 120. -/
def vault : State :=
  let s := withClock (at' run 4320 0) (fun c => { c with latestBoundary := some 4320 })
  withRow (withRow { s with
    loader := { run.loader with station := 7, profile := { run.loader.profile with gain := 2 } }
    battery := { run.battery with batteryTemp := some (-30), enclosureTemp := some 20 }
    heater := { run.heater with announced := some 120, computationDue := true } } 0 ⟨none, none, some ⟨150, 0, 0⟩⟩) 5
    ⟨none, none, some ⟨100, 50, 0⟩⟩

theorem witness_computes : vault.computes := by
  refine ⟨?_, ?_, ?_⟩ <;> decide

/-- The event at a second divisible by 10 brings the computation, and a step of station time before it is made takes
nothing of it away (R174). -/
theorem test_computation_is_kept :
    (after (.secondBoundaryEvent (reading 0)) (at' run 20 0)).heater.computationDue = true ∧
    (after (.secondBoundaryEvent (reading 0)) (at' run 21 0)).heater.computationDue = false ∧
    (after .computation ((after (.secondBoundaryEvent (reading 0)) (at' run 20 0)).applyStep (-5) .reference)).heater.budget
      = 300 := by decide +kernel

/-- The demand, the grant and the steps of section 10.7. -/
theorem test_worked_allocation : (after .computation vault).heater.demand = 140 ∧
    (after .computation vault).heater.urgent = 80 ∧ (after .computation vault).heater.U = 130 ∧
    (after .computation vault).heater.Nh = 260 ∧ (after .computation vault).heater.G = 119 ∧
    (after .computation vault).heater.steps0 = 16 ∧ (after .computation vault).heater.steps1 = 10 := by decide

/-- A stage notice before the first computation (R181). -/
theorem witness_HeatIsGranted_first : (run.peers.row run.loader.station).heat = none ∧ run.heater.demand = 0 ∧
    run.heater.urgent ≤ run.heater.demand ∧ run.allocate.heater.G = 0 := by decide

/-- After that computation the own row's heat part holds the demand, and CONSERVE grants 84 of it (section 10.7, R181). -/
theorem witness_HeatIsGranted_stage :
    ((after .computation vault).peers.row 7).heat = some ⟨140, 80, 0⟩ ∧ (after .computation vault).loader.station = 7 ∧
    (after .computation vault).heater.urgent ≤ (after .computation vault).heater.demand ∧
    ((after .computation vault).changeStage .conserve).heater.G = 84 := by decide

/-- 140 differs from 120 by 20, at least 18: a change announcement is made (section 10.7). -/
theorem witness_DemandIsComputedAndAnnounced :
    max 1 (vault.loader.profile.bVault / 16) ≤ (((after .computation vault).heater.demand : Int) - (120 : Int)).natAbs ∧
    vault.heater.lastRequest = none ∧ vault.sched.slots.heat = .empty ∧
    (after .computation vault).heater.lastRequest = some ⟨4320, 0⟩ := by decide

/-- A demand announced 17 before stays quiet, and so does one within 10 s of a HEAT request. -/
theorem witness_DemandIsComputedAndAnnounced_quiet :
    ((140 : Int) - (123 : Int)).natAbs < max 1 (vault.loader.profile.bVault / 16) ∧
    Time.diff ⟨4320, 0⟩ ⟨4310, 0⟩ = 100000000 := by decide

/-- Station 13's announcement point in second 60: 250,000 + 13 × 500,000 (R177). -/
theorem witness_DemandIsAnnouncedEachMinute : (at' run 60 6750000).isSettled = true ∧
    250000 + 500000 * run.loader.station.val = 6750000 ∧
    (after .announcementPoint (at' run 60 6750000)).heater.lastPoint = some ⟨60, 6750000⟩ ∧
    (heatSlot (.ready request)).sched.slots.heat = .ready request := by decide

/-- A hold of 120 s at its limit (R183). -/
def held : State := { at' run 140 0 with heater := { run.heater with hold := .holding ⟨20, 0⟩ } }

theorem witness_HoldsMoveAndEnd : held.isSettled = true ∧ (10000000 * run.loader.profile.qMax : Nat) = Time.diff ⟨140, 0⟩ ⟨20, 0⟩ ∧
    (after .holdLimit held).heater.hold = .spent ∧
    ({ held with loader := { run.loader with profile := { run.loader.profile with qMax := 0 } } } : State).nextLimit
      = some .hold ∧
    (after .heaterWindowEdge run).heater.out0 = false := by decide

/-! ### Whole-machine rules -/

theorem witness_ClockStaysSound : run.clock.sound := by
  refine ⟨?_, ?_, ?_, ?_, ?_⟩ <;> decide

/-- The built-in depth is 8: a full store is within its capacity, and a further set keeps it so (R82). -/
theorem witness_StoresStayBounded : let full : State := { frame 0 with intake := { (frame 0).intake with
      state := .running, store := List.replicate 8 ⟨⟨0, 0, 0⟩, ⟨20, 0⟩, 0⟩ } }
    full.bounded ∧ (after (.setArrival 0) full).intake.store.length = 8 ∧
    (after (.setArrival 0) full).intake.counters.slipDrops = 1 ∧ load.bounded ∧ quake3.oneOpen := by
  refine ⟨⟨?_, ?_, ?_, ?_⟩, ?_, ?_, ⟨?_, ?_, ?_, ?_⟩, fun e h => by cases h⟩ <;> decide

theorem witness_StoresStayBounded_disconnects : run.disconnects ∧ load.disconnects ∧
    (after .shedEntry (counted .normal 90000000 0 10 0)).disconnects := by
  refine ⟨⟨?_, ?_, ?_, ?_⟩, ⟨?_, ?_, ?_, ?_⟩, ⟨?_, ?_, ?_, ?_⟩⟩ <;> decide

theorem witness_ChargeFollowsItsConditions : load.chargeRuled ∧ run.chargeRuled ∧ run.isSettled = true ∧
    (after (.secondBoundaryEvent (reading 800)) (at' run 20 0)).battery.chgen = true ∧
    run.pending = [] ∧ run.dueCommand = none := by
  refine ⟨⟨?_, ?_, fun _ _ => ?_⟩, ⟨?_, ?_, fun _ _ => ?_⟩, ?_, ?_, ?_, ?_⟩
  case refine_3 => exact ⟨(fun h => by cases h), (fun h => by obtain ⟨_, _, x, h, _⟩ := h; cases h)⟩
  case refine_6 => exact ⟨(fun h => by cases h), (fun h => by obtain ⟨_, _, x, h, _⟩ := h; cases h)⟩
  all_goals decide

/-- An idle machine takes a step, so the invariants are not about none. -/
theorem witness_step_answers : (match step run with
    | .next t => t.clock.time
    | .fault _ => ⟨0, 0⟩
    | .refused _ => ⟨0, 0⟩) = ⟨0, 1⟩ := by decide

/-- Commands in a state in which no evaluation is due, though a loss is; and a limit step where an evaluation is due. -/
theorem witness_TrimChangesOnlyByEvaluation :
    (∀ e0 n, (withClock run (fun c => { c with interval := .reference 0 15, missing := 3 })).clock.interval
      = .reference e0 n → n < 16) ∧
    (withClock run (fun c => { c with interval := .reference 0 15, missing := 3 })).isSettled = false ∧
    (evaluated 48).isSettled = false ∧ Instr.ppsEdge ≠ .powerOnReset ∧ Instr.ppsEdge ≠ .peerEvaluation :=
  ⟨fun e0 n h => by cases h; decide, by decide, by decide, by decide, by decide⟩

/-- Without a deference timer its serial and expiry are reported as 0 (R158). -/
theorem test_no_timer_reports_zero : padData State.reset.alertPage = List.replicate 16 0 := by decide

end Sys2Proof.Tests
end

/-! ## What a step can do, said once

Every command is carried out in one of two ways: as a limit step, or by a condition and an effect on the settled state.
`conductOf` names the way of each command, and `step_keeps` derives every invariant from it. -/

namespace Sys2Proof.Machine

/-- How a command is carried out (assumption logs 3 and 4). -/
inductive Conduct
  | limit (x : Limit)
  | rule (condition : State → Bool) (effect : State → State)

/-- A command of this conduct, carried out. -/
def Conduct.run : Conduct → State → Host.Outcome State Fault Refusal
  | .limit x => takeLimit x
  | .rule condition effect => carryOut condition effect

/-- The conduct of each command. -/
def conductOf : Instr → Conduct
  | .powerOnReset => .rule (fun _ => true) State.powerOn
  | .pinReset => .rule (fun _ => true) State.resetPin
  | .resetRelease stn fast hatchOpen => .rule (fun s => !s.isReleased) (fun s => s.releaseReset stn fast hatchOpen)
  | .profileReadAttempt =>
    .rule State.attemptDue (fun s => s.mapLoader (fun l => { l with bus := .reading 0, attempts := l.attempts + 1 }))
  | .profileAttemptEnd result =>
    .rule (fun s => s.attemptEnded result) (fun s => s.endAttempt (s.attemptCycles.getD 0) result)
  | .profileAttemptTimeout =>
    .rule (fun s => decide (tickCycles ≤ s.attemptCycles.getD 0)) (fun s => s.failAttempt (s.attemptCycles.getD 0))
  | .secondBoundaryEvent inputs =>
    .rule (fun s => s.isReleased && s.boundary.isSome) (fun s => s.boundaryEvent inputs)
  | .ppsEdge => .rule State.isRunning (fun s => s.mapClock Clock.takeEdge)
  | .edgeMissing => .rule (fun s => s.isRunning && s.edgeOverdue) (fun s => s.mapClock Clock.edgeMissing)
  | .refrxCharacter data stop => .rule State.isRunning (fun s => s.refCharacter data stop)
  | .refrxGapTimeout => .rule (fun s => s.isRunning && s.recordGap 50000) (fun s => s.mapClock Clock.badRecord)
  | .outlierLimit => .limit .outlier
  | .referenceEvaluation => .limit .evaluation
  | .referenceReturn => .limit .refReturn
  | .referenceLoss => .rule (fun s => s.isRunning && s.lossPeriodOver)
      (fun s => (s.mapClock (fun c => { c with lossStart := none })).loseReference)
  | .consecutiveMissingLimit => .limit .missing
  | .holdoverAgeLimit => .limit .age
  | .peerEvaluation => .rule (fun s => s.isRunning && s.peerEvaluationDue) State.evaluatePeers
  | .characterReceived samples => .rule (fun s => s.trunk.receiver.inside) (fun s => s.readCharacter samples)
  | .lineIdle => .rule State.idleReached State.lineBecomesIdle
  | .lineFault => .rule State.faultReached (fun s => s.mapTrunk Trunk.lineFault)
  | .choice => .rule State.choiceDue State.choose
  | .txStart => .rule State.startReached State.startSending
  | .arbitrationLoss => .rule (fun s => s.atReadBack && !s.sendsDominant) State.loseArbitration
  | .driveFault => .rule (fun s => s.atReadBack && s.sendsDominant) State.faultDrive
  | .inboundBeacon => .rule (fun s => s.entryReady .beacon) (fun s => s.inbound State.applyBeacon)
  | .inboundOnset => .rule (fun s => s.entryReady .onset) (fun s => s.inbound State.applyOnset)
  | .inboundCoda => .rule (fun s => s.entryReady .coda) (fun s => s.inbound State.applyCoda)
  | .inboundHeat => .rule (fun s => s.entryReady .heat) (fun s => s.inbound State.applyHeat)
  | .inboundAlert => .rule (fun s => s.entryReady .alert) (fun s => s.inbound State.applyAlert)
  | .inboundAlertRaise => .rule (fun s => s.entryReady .alertRaise) (fun s => s.inbound State.applyRaise)
  | .inboundQuery => .rule (fun s => s.entryReady .query) (fun s => s.inbound State.applyQuery)
  | .inboundReply => .rule (fun s => s.entryReady .reply) (fun s => s.inbound (fun _ s => s))
  | .stationConflictExpiry => .limit .conflict
  | .timePartAgeOut row => .limit (.timePart row)
  | .heatPartAgeOut row => .limit (.heatPart row)
  | .triggerPartAgeOut row => .limit (.triggerPart row)
  | .requestDeadline kind => .rule (fun s => s.deadlineDue kind) (fun s => s.expire (deadlineSlot kind))
  | .beaconCandidatePoint => .rule (fun s => s.candidatePoint.isSome) State.takeCandidate
  | .portFrameOpen =>
    .rule (fun s => s.portOpen && s.intake.frame.isNone) (fun s => s.mapIntake (fun i => { i with frame := some 0 }))
  | .setArrival bits => .rule State.setExpected (fun s => s.arrive bits)
  | .portFrameClose => .rule (fun s => s.portOpen && s.intake.frame.isSome) (fun s => s.mapIntake Intake.closeFrame)
  | .tick => .rule (fun s => s.tickDue.isSome) (fun s => s.tick (s.tickDue.getD s.now))
  | .stall => .limit .stall
  | .warmupEnd => .limit .warmup
  | .forcedEnd => .limit .forced
  | .holdoffEnd => .limit .holdoff
  | .vote => .rule (fun s => s.requestReady .vote)
      (fun s => match s.nextRequest with
        | some (.vote source n onset) => (s.popRequest.takeVote n onset).doneFor source
        | _ => s)
  | .heardAlert => .rule (fun s => s.requestReady .heardAlert)
      (fun s => match s.nextRequest with
        | some (.heardAlert _ body) => (s.popRequest.hearAlert body).release
        | _ => s)
  | .heardAlertRaise => .rule (fun s => s.requestReady .heardAlertRaise)
      (fun s => match s.nextRequest with
        | some (.heardRaise _ body) => (s.popRequest.hearRaise body).release
        | _ => s)
  | .peakRequest => .rule (fun s => s.requestReady .peakRequest)
      (fun s => match s.nextRequest with
        | some (.peak source n onset peak) => (s.popRequest.takePeak n onset peak).doneFor source
        | _ => s)
  | .eventClosingTime => .rule (fun s => s.isRunning && s.closingDue.isSome)
      (fun s => match s.closingDue with
        | some serial => s.askCo (.closing serial)
        | none => s)
  | .closingExpiry => .rule (fun s => s.requestReady .closingExpiry)
      (fun s => match s.nextRequest with
        | some (.closing serial) => s.popRequest.takeClosing serial
        | _ => s)
  | .raiseSent => .rule (fun s => s.requestReady .raiseSent)
      (fun s => match s.nextRequest with
        | some (.raiseSent serial) => s.popRequest.takeRaiseSent serial
        | _ => s)
  | .deferenceExpiry => .rule (fun s => s.isRunning && s.deferenceReached) State.expireDeference
  | .annunciatorSlot => .rule (fun s => s.isRunning && s.slotDue.isSome) (fun s => s.nextSlot (s.slotDue.getD s.now))
  | .fullResync => .limit .resync
  | .shedEntry => .limit .shedEntry
  | .shedExit => .limit .shedExit
  | .computation => .rule (fun s => s.isRunning && s.heater.computationDue) State.compute
  | .announcementPoint => .rule (fun s => s.announcementDue.isSome)
      (fun s => ({ s with heater := { s.heater with lastPoint := s.announcementDue } }).requestHeat)
  | .holdLimit => .rule State.holdLimitReached State.limitHold
  | .heaterWindowEdge => .rule State.isRunning State.followHeaters
  | .filteredStateChange => .rule State.hatchDue (fun s => s.mapLoader (fun l => l.followHatch s.pins.hatch))
  | .disturbedTimerExpiry => .limit .disturbed
  | .fallingEdge =>
    .rule (fun s => s.isReleased && !s.trunk.receiver.inside) (fun s => s.mapTrunk (fun t => t.fallingEdge s.now))
  | .glitch => .rule (fun s => s.trunk.receiver.inside) State.takeGlitch
  | .receiverHuntsAgain => .rule State.mayRise (fun s => s.mapTrunk Trunk.rise)
  | .hatchLevelChange hatchOpen => .rule (fun _ => true) (fun s => s.setHatch hatchOpen)

/-- Every command is carried out as its conduct says. -/
theorem exec_eq_conduct (i : Instr) (s : State) : exec i s = (conductOf i).run s := by
  cases i <;> rfl

/-! ### Invariants -/

variable (P : State → Prop)

/-- What every limit step that is due keeps, settling keeps. -/
theorem settleFor_keeps (hlimit : ∀ (x : Limit) s, x.due s = true → P s → P (x.effect s)) (n : Nat) (s : State)
    (h : P s) : P (State.settleFor n s) := by
  induction n generalizing s with
  | zero => exact h
  | succ n ih =>
    unfold State.settleFor
    split
    · exact h
    · rename_i x hx
      exact ih _ (hlimit x s (by simpa using List.find?_some hx) h)

/-- What the limit steps and the command's own effect keep, the command keeps. -/
theorem exec_keeps (hlimit : ∀ (x : Limit) s, x.due s = true → P s → P (x.effect s)) (i : Instr)
    (hrule : ∀ condition effect, conductOf i = .rule condition effect →
      ∀ s, condition s = true → P s → P (effect s))
    (s t : State) (h : P s) (ht : exec i s = .next t) : P t := by
  rw [exec_eq_conduct] at ht
  cases hi : conductOf i with
  | limit x =>
    rw [hi] at ht
    rcases takeLimit_cases s x t ht with ⟨hd, rfl⟩ | ⟨-, rfl⟩
    · exact hlimit x s hd h
    · exact h
  | rule condition effect =>
    rw [hi] at ht
    have hs : P s.settle := settleFor_keeps P hlimit 64 s h
    rcases carryOut_cases s condition effect t ht with ⟨hc, rfl⟩ | ⟨-, rfl⟩
    · exact hrule _ _ hi _ hc hs
    · exact hs

/-- What the limit steps, the effects of the commands and a cycle keep, whatever stands in the queue, every step
keeps. -/
theorem step_keeps (hqueue : ∀ s q, P s → P { s with pending := q })
    (hlimit : ∀ (x : Limit) s, x.due s = true → P s → P (x.effect s))
    (hrule : ∀ i condition effect, conductOf i = .rule condition effect →
      ∀ s, condition s = true → P s → P (effect s))
    (hcycle : ∀ s, P s → P s.countCycle) (s t : State) (h : P s) (ht : step s = .next t) : P t := by
  unfold step at ht
  split at ht
  · exact exec_keeps P hlimit _ (hrule _) _ t (hqueue s _ h) ht
  · split at ht
    · exact exec_keeps P hlimit _ (hrule _) _ t h ht
    · cases ht
      exact hcycle s h

end Sys2Proof.Machine

/-! ## What the clock's operations do to the clock

Every operation of chapter 1 is made of writes of the clock and of whole steps of station time. `ClockMoves R` says so,
with the relation `R` that each write keeps; three such relations say what each operation keeps of the clock. -/

namespace Sys2Proof.Machine

/-! ### What a write of the clock keeps -/

/-- The ranges and the capacity of the step log are kept (R1, R3, R23). -/
structure Clock.KeepsRanges (c d : Clock) : Prop where
  sound : c.sound → d.sound
  log : c.log.length ≤ 4 → d.log.length ≤ 4

/-- The trim is kept besides (R3). -/
structure Clock.KeepsTrim (c d : Clock) : Prop extends Clock.KeepsRanges c d where
  trim : d.F = c.F

/-- An evaluation edge waits for its evaluation (R14, R15). -/
def Clock.evaluationDue (c : Clock) : Bool := c.interval.complete && c.taken.isSome

/-- No evaluation becomes due besides. -/
structure Clock.KeepsSettled (c d : Clock) : Prop extends Clock.KeepsTrim c d where
  settled : c.evaluationDue = false → d.evaluationDue = false

theorem State.evaluationDue_eq (s : State) : s.evaluationDue = s.clock.evaluationDue := rfl

/-- A write that leaves time, trim and log, and leaves P or sets it to 0. -/
theorem Clock.KeepsTrim.of_write {c d : Clock} (ht : d.time = c.time) (hF : d.F = c.F) (hl : d.log = c.log)
    (hP : d.P = c.P ∨ d.P = 0) : c.KeepsTrim d := by
  refine ⟨⟨fun ⟨h1, h2, h3, h4, h5⟩ => ?_, fun h => hl ▸ h⟩, hF⟩
  refine ⟨ht ▸ h1, hF ▸ h2, hF ▸ h3, ?_⟩
  rcases hP with hP | hP <;> rw [hP] <;> omega

/-- Such a write that does not bring an evaluation. -/
theorem Clock.KeepsSettled.of_write {c d : Clock} (ht : d.time = c.time) (hF : d.F = c.F) (hl : d.log = c.log)
    (hP : d.P = c.P ∨ d.P = 0) (hd : c.evaluationDue = false → d.evaluationDue = false) : c.KeepsSettled d :=
  ⟨.of_write ht hF hl hP, hd⟩

/-- A write of F and P within their ranges (R3). -/
theorem Clock.KeepsRanges.of_clamped {c d : Clock} (ht : d.time = c.time) (hl : d.log = c.log)
    (hF : ∃ x, d.F = clampF x) (hP : d.P = 0 ∨ ∃ x, d.P = clampP x) : c.KeepsRanges d := by
  obtain ⟨x, hF⟩ := hF
  refine ⟨fun ⟨h1, _⟩ => ⟨ht ▸ h1, ?_, ?_, ?_⟩, fun h => hl ▸ h⟩
  · rw [hF, clampF, clampInt]; omega
  · rw [hF, clampF, clampInt]; omega
  · rcases hP with hP | ⟨y, hP⟩ <;> rw [hP]
    · omega
    · rw [clampP, clampInt]; omega

/-- A step of station time keeps them all. -/
theorem Clock.step_keepsSettled (c : Clock) (x : Int) (cause : StepCause) : c.KeepsSettled (c.step x cause) := by
  refine ⟨⟨⟨fun ⟨_, h⟩ => ⟨c.time.add_sub_lt x, h⟩, fun _ => ?_⟩, rfl⟩, fun h => ?_⟩
  · simp [Clock.step, Clock.refix]
  · simpa [Clock.evaluationDue, Clock.step, Clock.refix] using h

theorem Clock.KeepsSettled.refl (c : Clock) : c.KeepsSettled c := ⟨⟨⟨id, id⟩, rfl⟩, id⟩

theorem Clock.KeepsRanges.trans {a b c : Clock} (h : a.KeepsRanges b) (k : b.KeepsRanges c) : a.KeepsRanges c :=
  ⟨k.sound ∘ h.sound, k.log ∘ h.log⟩

theorem Clock.KeepsTrim.trans {a b c : Clock} (h : a.KeepsTrim b) (k : b.KeepsTrim c) : a.KeepsTrim c :=
  ⟨h.toKeepsRanges.trans k.toKeepsRanges, k.trim.trans h.trim⟩

theorem Clock.KeepsSettled.trans {a b c : Clock} (h : a.KeepsSettled b) (k : b.KeepsSettled c) : a.KeepsSettled c :=
  ⟨h.toKeepsTrim.trans k.toKeepsTrim, k.settled ∘ h.settled⟩

/-! ### Writes and steps -/

/-- The second state comes from the first by writes of the clock, each in this relation, and by steps of station
time. -/
inductive ClockMoves (R : Clock → Clock → Prop) (s : State) : State → Prop
  | refl : ClockMoves R s s
  | map {t : State} (f : Clock → Clock) : ClockMoves R s t → R t.clock (f t.clock) → ClockMoves R s (t.mapClock f)
  | step {t : State} (x : Int) (cause : StepCause) : ClockMoves R s t → ClockMoves R s (t.applyStep x cause)

theorem ClockMoves.trans {R : Clock → Clock → Prop} {s t u : State} (h : ClockMoves R s t) (k : ClockMoves R t u) :
    ClockMoves R s u := by
  induction k with
  | refl => exact h
  | map f _ hf ih => exact ih.map f hf
  | step x cause _ ih => exact ih.step x cause

theorem ClockMoves.mono {R R' : Clock → Clock → Prop} (hR : ∀ c d, R c d → R' c d) {s t : State}
    (h : ClockMoves R s t) : ClockMoves R' s t := by
  induction h with
  | refl => exact .refl
  | map f _ hf ih => exact ih.map f (hR _ _ hf)
  | step x cause _ ih => exact ih.step x cause

/-- A reflexive and transitive relation that steps keep is kept throughout. -/
theorem ClockMoves.clock {R : Clock → Clock → Prop} (hrefl : ∀ c, R c c) (htrans : ∀ a b c, R a b → R b c → R a c)
    (hstep : ∀ (c : Clock) x cause, R c (c.step x cause)) {s t : State} (h : ClockMoves R s t) : R s.clock t.clock := by
  induction h with
  | refl => exact hrefl _
  | map f _ hf ih => exact htrans _ _ _ ih hf
  | step x cause _ ih => exact htrans _ _ _ ih (hstep _ _ _)

theorem ClockMoves.keepsSettled {s t : State} (h : ClockMoves Clock.KeepsSettled s t) : s.clock.KeepsSettled t.clock :=
  h.clock .refl (fun _ _ _ => .trans) Clock.step_keepsSettled

theorem ClockMoves.keepsTrim {s t : State} (h : ClockMoves Clock.KeepsTrim s t) : s.clock.KeepsTrim t.clock :=
  h.clock (fun c => (Clock.KeepsSettled.refl c).toKeepsTrim) (fun _ _ _ => .trans)
    (fun c x cause => (c.step_keepsSettled x cause).toKeepsTrim)

theorem ClockMoves.keepsRanges {s t : State} (h : ClockMoves Clock.KeepsRanges s t) : s.clock.KeepsRanges t.clock :=
  h.clock (fun c => (Clock.KeepsSettled.refl c).toKeepsRanges) (fun _ _ _ => .trans)
    (fun c x cause => (c.step_keepsSettled x cause).toKeepsRanges)

theorem ClockMoves.unsettled {s t : State} (h : ClockMoves Clock.KeepsSettled s t) : ClockMoves Clock.KeepsTrim s t :=
  h.mono (fun _ _ k => k.toKeepsTrim)

theorem ClockMoves.untrimmed {s t : State} (h : ClockMoves Clock.KeepsTrim s t) : ClockMoves Clock.KeepsRanges s t :=
  h.mono (fun _ _ k => k.toKeepsRanges)

/-! ### Operations that bring no evaluation -/

variable (s : State)

theorem State.enterPeerSteered_moves : ClockMoves Clock.KeepsSettled s s.enterPeerSteered := by
  unfold State.enterPeerSteered
  dsimp only
  have first : ClockMoves Clock.KeepsSettled s (s.mapClock (fun c =>
      { c with state := .peerSteered, steeringClass := some c.timeClass, restartPending := false })) :=
    .map _ .refl (.of_write rfl rfl rfl (.inl rfl) id)
  split
  · exact (first.step _ _).map _ (.of_write rfl rfl rfl (.inr rfl) fun _ => rfl)
  · exact first.map _ (.of_write rfl rfl rfl (.inr rfl) fun _ => rfl)

theorem State.considerSources_moves : ClockMoves Clock.KeepsSettled s s.considerSources := by
  unfold State.considerSources
  split
  · exact .refl
  · exact s.enterPeerSteered_moves

theorem State.enterHoldover_moves : ClockMoves Clock.KeepsSettled s s.enterHoldover := by
  unfold State.enterHoldover
  exact (ClockMoves.map _ .refl (.of_write rfl rfl rfl (.inr rfl) fun _ => rfl)).trans (State.considerSources_moves _)

theorem State.considerCandidates_moves : ClockMoves Clock.KeepsSettled s s.considerCandidates := by
  unfold State.considerCandidates
  split
  · exact s.enterHoldover_moves
  · split
    · exact .map _ .refl (.of_write rfl rfl rfl (.inl rfl) fun _ => rfl)
    · exact .refl

theorem State.reexamine_moves : ClockMoves Clock.KeepsSettled s s.reexamine := by
  unfold State.reexamine
  split
  · exact s.considerSources_moves
  · exact s.considerSources_moves
  · exact s.considerCandidates_moves
  · exact .refl
  · exact .refl

theorem State.loseReference_moves : ClockMoves Clock.KeepsSettled s s.loseReference := by
  unfold State.loseReference
  dsimp only
  have first := ClockMoves.map (R := Clock.KeepsSettled) (fun c : Clock => { c with
    missing := 0, outliers := 0, returnCount := 0, counters := { c.counters with losses := bump16 c.counters.losses } })
    (.refl (s := s)) (.of_write rfl rfl rfl (.inl rfl) id)
  split
  · exact first.trans (State.enterHoldover_moves _)
  · exact first.trans (State.enterHoldover_moves _)
  · exact first
  · exact first
  · exact first

theorem State.acquisition_moves (x : Taken) : ClockMoves Clock.KeepsSettled s (s.acquisition x) := by
  unfold State.acquisition
  dsimp only
  split
  · exact .map _ .refl (.of_write rfl rfl rfl (.inr rfl) fun _ => rfl)
  · exact .map _ (.step _ _ .refl) (.of_write rfl rfl rfl (.inr rfl) fun _ => rfl)

theorem State.outlierLimit_moves : ClockMoves Clock.KeepsSettled s s.outlierLimit :=
  .map _ .refl (.of_write rfl rfl rfl (.inr rfl) fun _ => rfl)

theorem State.ageLimit_moves : ClockMoves Clock.KeepsSettled s s.ageLimit :=
  (ClockMoves.map _ .refl (.of_write rfl rfl rfl (.inl rfl) id)).trans (State.reexamine_moves _)

theorem State.returnReference_moves : ClockMoves Clock.KeepsSettled s s.returnReference := by
  unfold State.returnReference
  split
  · exact .refl
  · exact (ClockMoves.map _ .refl (.of_write rfl rfl rfl (.inr rfl) fun _ => rfl)).trans (State.acquisition_moves _ _)

/-! ### Operations that leave the trim -/

theorem Clock.disciplineEdge_keepsTrim (c : Clock) (x : Taken) : c.KeepsTrim (c.disciplineEdge x) := by
  unfold Clock.disciplineEdge Clock.intervalEdge
  (repeat' split) <;> exact .of_write rfl rfl rfl (by simp [Clock.setSlew, Clock.refix])

theorem State.discipline_moves (x : Taken) : ClockMoves Clock.KeepsTrim s (s.discipline x) := by
  unfold State.discipline State.correctSeconds
  split
  · exact .map _ .refl (Clock.disciplineEdge_keepsTrim _ _)
  · exact (ClockMoves.map _ (.step _ _ .refl) (.of_write rfl rfl rfl (.inl rfl))).map _
      (Clock.disciplineEdge_keepsTrim _ _)

theorem State.takenEdge_moves (x : Taken) : ClockMoves Clock.KeepsTrim s (s.takenEdge x) := by
  unfold State.takenEdge
  split
  · exact (ClockMoves.map _ .refl (.of_write rfl rfl rfl (.inr rfl))).trans (State.acquisition_moves _ x).unsettled
  · split
    · exact (s.acquisition_moves x).unsettled
    · exact s.discipline_moves x
  · split
    · exact .map _ .refl (.of_write rfl rfl rfl (.inl rfl))
    · exact (ClockMoves.map _ .refl (.of_write rfl rfl rfl (.inl rfl))).trans (State.discipline_moves _ x)
  · exact .map _ .refl (.of_write rfl rfl rfl (.inl rfl))
  · exact .map _ .refl (.of_write rfl rfl rfl (.inl rfl))

theorem State.pairRecord_moves (x : BitVec 32) (b : Bool) : ClockMoves Clock.KeepsTrim s (s.pairRecord x b) := by
  unfold State.pairRecord
  split
  · exact .refl
  · split
    · split
      · exact (ClockMoves.map _ .refl (.of_write rfl rfl rfl (.inl rfl))).trans (State.takenEdge_moves _ _)
      · exact (ClockMoves.map _ .refl (.of_write rfl rfl rfl (.inl rfl))).trans (State.loseReference_moves _).unsettled
    · exact .refl

theorem State.badRecord_moves : ClockMoves Clock.KeepsTrim s (s.mapClock Clock.badRecord) :=
  .map _ .refl (.of_write rfl rfl rfl (.inl rfl))

theorem State.endRecord_moves (l : List Byte) : ClockMoves Clock.KeepsTrim s (s.endRecord l) := by
  unfold State.endRecord
  split
  · exact (ClockMoves.map _ .refl (.of_write rfl rfl rfl (.inl rfl))).trans (State.pairRecord_moves _ _ _)
  · exact s.badRecord_moves

theorem State.recordCharacter_moves (x : Byte) (b : Bool) : ClockMoves Clock.KeepsTrim s (s.recordCharacter x b) := by
  unfold State.recordCharacter
  split
  · split
    · exact .map _ .refl (.of_write rfl rfl rfl (.inl rfl))
    · exact .refl
  · split
    · exact s.badRecord_moves
    · split
      · exact .map _ .refl (.of_write rfl rfl rfl (.inl rfl))
      · exact s.endRecord_moves _

theorem State.refCharacter_moves (x : Byte) (b : Bool) : ClockMoves Clock.KeepsTrim s (s.refCharacter x b) := by
  unfold State.refCharacter
  dsimp only
  have taken (u : State) : ClockMoves Clock.KeepsTrim u
      ((u.mapClock (fun c => { c with refLast := some c.time })).recordCharacter x b) :=
    (ClockMoves.map _ .refl (.of_write rfl rfl rfl (.inl rfl))).trans (State.recordCharacter_moves _ x b)
  split
  · exact s.badRecord_moves.trans (taken _)
  · exact taken s

theorem Clock.edgeMissing_keepsTrim (c : Clock) : c.KeepsTrim c.edgeMissing := .of_write rfl rfl rfl (.inl rfl)

theorem Clock.takeEdge_keepsTrim (c : Clock) : c.KeepsTrim c.takeEdge := by
  unfold Clock.takeEdge
  dsimp only
  split <;> exact .of_write rfl rfl rfl (.inl rfl)

/-! ### Evaluations -/

theorem State.evaluateReference_moves : ClockMoves Clock.KeepsRanges s s.evaluateReference := by
  unfold State.evaluateReference
  split
  · exact .refl
  · dsimp only
    have first : ClockMoves Clock.KeepsRanges s (s.mapClock (fun c => { c with taken := none })) :=
      .map _ .refl ⟨id, id⟩
    split
    · exact first.map _ (.of_clamped rfl rfl ⟨_, rfl⟩ (.inr ⟨_, rfl⟩))
    · refine ((first.map _ ⟨fun ⟨h1, _, _, h4⟩ => ?_, id⟩).step _ _).map _ (.of_clamped rfl rfl ⟨_, rfl⟩ (.inl rfl))
      refine ⟨h1, ?_, ?_, h4⟩ <;> simp only [newTrim, clampF, clampInt] <;> omega

theorem State.evaluatePeers_moves : ClockMoves Clock.KeepsRanges s s.evaluatePeers := by
  unfold State.evaluatePeers
  split
  · exact .map _ .refl ⟨id, id⟩
  · dsimp only
    split
    · exact .map _ .refl (.of_clamped rfl rfl ⟨_, rfl⟩ (.inr ⟨_, rfl⟩))
    · refine .map _ (.step _ _ (.map _ .refl ⟨fun ⟨h1, _, _, h4⟩ => ?_, id⟩)) (.of_clamped rfl rfl ⟨_, rfl⟩ (.inl rfl))
      refine ⟨h1, ?_, ?_, h4⟩ <;> simp only [newTrim, clampF, clampInt] <;> omega

end Sys2Proof.Machine

/-! ## The clock under every command -/

namespace Sys2Proof.Machine

variable (s : State)

theorem Clock.KeepsTrim.refl (c : Clock) : c.KeepsTrim c := (Clock.KeepsSettled.refl c).toKeepsTrim

/-! ### The limit steps -/

/-- No limit step but the evaluation changes the trim, and none brings an evaluation. -/
theorem Limit.effect_keepsSettled (x : Limit) (hx : x ≠ .evaluation) :
    s.clock.KeepsSettled (x.effect s).clock := by
  have same {t : State} (h : t.clock = s.clock) : s.clock.KeepsSettled t.clock := h ▸ .refl _
  cases x
  case evaluation => exact absurd rfl hx
  case outlier => exact s.outlierLimit_moves.keepsSettled
  case refReturn => exact s.returnReference_moves.keepsSettled
  case missing => exact s.loseReference_moves.keepsSettled
  case age => exact s.ageLimit_moves.keepsSettled
  case timePart n => exact (State.reexamine_moves (s.mapPeers _)).keepsSettled
  all_goals
    exact same (by simp [Limit.effect, State.clearConflict, State.clearDisturbed, State.mapLoader, State.dropHeatPart,
      State.dropTriggerPart, State.stall, State.endWarmup, State.endHoldoff])

/-- Every limit step keeps the clock's ranges and the capacity of its log. -/
theorem Limit.effect_keepsRanges (x : Limit) : s.clock.KeepsRanges (x.effect s).clock := by
  by_cases hx : x = .evaluation
  · subst hx
    exact s.evaluateReference_moves.keepsRanges
  · exact (x.effect_keepsSettled s hx).toKeepsRanges

/-! ### The effects of the commands -/

/-- A choice moves the scheduler and the transmitter alone. -/
@[simp] theorem State.choose_frame :
    s.choose.pins = s.pins ∧ s.choose.loader = s.loader ∧ s.choose.clock = s.clock ∧ s.choose.peers = s.peers ∧
    s.choose.intake = s.intake ∧ s.choose.detector = s.detector ∧ s.choose.co = s.co ∧ s.choose.alerts = s.alerts ∧
    s.choose.battery = s.battery ∧ s.choose.heater = s.heater ∧ s.choose.service = s.service ∧
    s.choose.free = s.free ∧ s.choose.pending = s.pending := by
  unfold State.choose
  split <;> simp

/-- A candidate point leaves the blocks that a request leaves. -/
@[simp] theorem State.takeCandidate_frame :
    s.takeCandidate.pins = s.pins ∧ s.takeCandidate.loader = s.loader ∧ s.takeCandidate.clock = s.clock ∧
    s.takeCandidate.trunk = s.trunk ∧ s.takeCandidate.peers = s.peers ∧ s.takeCandidate.intake = s.intake ∧
    s.takeCandidate.battery = s.battery ∧ s.takeCandidate.free = s.free ∧
    s.takeCandidate.pending = s.pending := by
  unfold State.takeCandidate
  split
  · simp
  · dsimp only
    split <;> simp

/-- A computation leaves the blocks that a request leaves, but for the own row of the peer table. -/
@[simp] theorem State.compute_frame :
    s.compute.pins = s.pins ∧ s.compute.loader = s.loader ∧ s.compute.clock = s.clock ∧
    s.compute.trunk = s.trunk ∧ s.compute.intake = s.intake ∧ s.compute.battery = s.battery ∧
    s.compute.free = s.free ∧ s.compute.pending = s.pending := by
  simp [State.compute]

/-- What taking the oldest entry does: the entry is applied, or only the peer table and the link counters move. -/
theorem State.inbound_cases (f : InEntry → State → State) :
    (∃ e rest, s.peers.queue = e :: rest ∧ s.inbound f = f e { s with peers := { s.peers with queue := rest } }) ∨
    ∃ t p, s.inbound f = { s with trunk := t, peers := p } ∧ p.queue.length ≤ s.peers.queue.length := by
  cases hq : s.peers.queue with
  | nil => exact .inr ⟨s.trunk, s.peers, by simp [State.inbound, hq], by simp [hq]⟩
  | cons e rest =>
    rw [State.inbound_eq s e rest f hq]
    split
    · exact .inr ⟨_, _, rfl, by simp⟩
    · exact .inr ⟨s.trunk, _, rfl, by simp⟩
    · exact .inr ⟨s.trunk, _, rfl, by simp⟩
    · exact .inl ⟨e, rest, rfl, rfl⟩

theorem State.inbound_clock (f : InEntry → State → State) (h : ∀ e u, (f e u).clock = u.clock) :
    (s.inbound f).clock = s.clock := by
  rcases s.inbound_cases f with ⟨e, rest, -, h'⟩ | ⟨t, p, h', -⟩ <;> rw [h']
  exact h _ _

theorem State.applyBeacon_keepsTrim (e : InEntry) : s.clock.KeepsTrim (State.applyBeacon e s).clock :=
  (State.reexamine_moves (s.mapPeers _)).unsettled.keepsTrim

theorem State.releaseReset_keepsTrim (stn : BitVec 4) (a b : Bool) :
    s.clock.KeepsTrim (s.releaseReset stn a b).clock :=
  .of_write rfl rfl rfl (.inl rfl)

theorem State.resetPin_keepsTrim : s.clock.KeepsTrim s.resetPin.clock := by
  refine ⟨⟨fun ⟨_, h2, h3, _, _⟩ => ⟨?_, h2, h3, ?_, ?_⟩, fun _ => ?_⟩, rfl⟩ <;>
    simp [State.resetPin, Clock.reset]

theorem State.endLoading_clock (o : LoadOutcome) :
    (s.endLoading o).clock = { s.clock with lossStart := some s.clock.time, advanced := 0 } := by
  unfold State.endLoading
  dsimp only
  split <;> simp [State.mapLoader, State.mapClock]

theorem State.endLoading_keepsTrim (o : LoadOutcome) : s.clock.KeepsTrim (s.endLoading o).clock := by
  rw [State.endLoading_clock]
  exact .of_write rfl rfl rfl (.inl rfl)

/-- An attempt that has failed is followed by a wait, or by the end of loading (R189). -/
theorem State.nextAttempt_cases :
    (∃ l, l.phase = s.loader.phase ∧ l.profile = s.loader.profile ∧ s.nextAttempt = { s with loader := l }) ∨
    ∃ o, s.nextAttempt = s.endLoading o := by
  unfold State.nextAttempt
  split
  · exact .inr ⟨_, rfl⟩
  · exact .inl ⟨{ s.loader with bus := .waiting tickCycles }, rfl, rfl, rfl⟩

/-- The end of an attempt moves the loader and the counter of free values; then loading may end (R189, R190). -/
theorem State.endAttempt_cases (n : Nat) (x : ProfileEnd) :
    ∃ l f, l.phase = s.loader.phase ∧ l.profile = s.loader.profile ∧
      (s.endAttempt n x = { s with loader := l, free := f } ∨
        ∃ o, s.endAttempt n x = State.endLoading { s with loader := l, free := f } o) := by
  have failed : s.failAttempt n = { s with
    loader := { s.loader with bus := .aborting (abortCycles n) }, free := s.free } := rfl
  cases x with
  | notAcknowledged k => exact ⟨{ s.loader with bus := .aborting (abortCycles n) }, s.free, rfl, rfl, .inl failed⟩
  | heldLow => exact ⟨{ s.loader with bus := .aborting (abortCycles n) }, s.free, rfl, rfl, .inl failed⟩
  | stopped bytes =>
    have stopped : s.endAttempt n (.stopped bytes) = (fun u : State =>
        if profileValid bytes then u.endLoading .valid else u.nextAttempt)
        { s with loader := { s.loader with image := bytes, anyStop := true }, free := s.free + 1 } := rfl
    rw [stopped]
    dsimp only
    split
    · exact ⟨{ s.loader with image := bytes, anyStop := true }, s.free + 1, rfl, rfl, .inr ⟨.valid, rfl⟩⟩
    · rcases State.nextAttempt_cases { s with
        loader := { s.loader with image := bytes, anyStop := true }, free := s.free + 1 } with ⟨l, h1, h2, h⟩ | ⟨o, h⟩
      · exact ⟨l, s.free + 1, h1, h2, .inl h⟩
      · exact ⟨{ s.loader with image := bytes, anyStop := true }, s.free + 1, rfl, rfl, .inr ⟨o, h⟩⟩

/-- Before a cycle a failed attempt may end (R189). -/
theorem State.finishAbort_cases :
    (∃ l, l.phase = s.loader.phase ∧ l.profile = s.loader.profile ∧ s.finishAbort = { s with loader := l }) ∨
    s.loader.phase = .loading ∧ ∃ o, s.finishAbort = s.endLoading o := by
  unfold State.finishAbort
  split
  · rename_i hp
    exact s.nextAttempt_cases.imp_right (fun h => ⟨hp.1, h⟩)
  · exact .inl ⟨s.loader, rfl, rfl, rfl⟩

theorem State.endAttempt_keepsTrim (n : Nat) (x : ProfileEnd) : s.clock.KeepsTrim (s.endAttempt n x).clock := by
  obtain ⟨l, f, -, -, h | ⟨o, h⟩⟩ := s.endAttempt_cases n x <;> rw [h]
  · exact .refl _
  · exact State.endLoading_keepsTrim { s with loader := l, free := f } o

theorem State.finishAbort_keepsTrim : s.clock.KeepsTrim s.finishAbort.clock := by
  obtain ⟨l, -, -, h⟩ | ⟨-, o, h⟩ := s.finishAbort_cases <;> rw [h]
  · exact .refl _
  · exact s.endLoading_keepsTrim o

theorem Clock.boundary_keepsTrim (c : Clock) (sec : BitVec 32) :
    c.KeepsTrim { c.boundary with latestBoundary := some sec } := by
  unfold Clock.boundary
  split <;> exact .of_write rfl rfl rfl (.inl rfl)

theorem State.boundaryEvent_keepsTrim (r : Readings) : s.clock.KeepsTrim (s.boundaryEvent r).clock := by
  unfold State.boundaryEvent
  split
  · exact .refl _
  · dsimp only
    split <;> simpa [State.countBoundary, State.mapLoader] using Clock.boundary_keepsTrim _ _

/-- No command but a peer evaluation and a power-on reset changes the trim, the limit steps apart (R3, R25). -/
theorem rule_keepsTrim (i : Instr) (hp : i ≠ .powerOnReset) (he : i ≠ .peerEvaluation) (condition : State → Bool)
    (effect : State → State) (hi : conductOf i = .rule condition effect) : s.clock.KeepsTrim (effect s).clock := by
  have same {t : State} (h : t.clock = s.clock) : s.clock.KeepsTrim t.clock := h ▸ .refl _
  cases i <;> cases hi
  case powerOnReset => exact absurd rfl hp
  case peerEvaluation => exact absurd rfl he
  case pinReset => exact s.resetPin_keepsTrim
  case resetRelease => exact s.releaseReset_keepsTrim _ _ _
  case profileAttemptEnd => exact s.endAttempt_keepsTrim _ _
  case secondBoundaryEvent => exact s.boundaryEvent_keepsTrim _
  case ppsEdge => exact s.clock.takeEdge_keepsTrim
  case edgeMissing => exact s.clock.edgeMissing_keepsTrim
  case refrxCharacter => exact (s.refCharacter_moves _ _).keepsTrim
  case refrxGapTimeout => exact s.badRecord_moves.keepsTrim
  case referenceLoss =>
    have first : ClockMoves Clock.KeepsTrim s (s.mapClock (fun c => { c with lossStart := none })) :=
      .map _ .refl (.of_write rfl rfl rfl (.inl rfl))
    exact (first.trans (State.loseReference_moves _).unsettled).keepsTrim
  case inboundBeacon =>
    rcases s.inbound_cases State.applyBeacon with ⟨e, rest, -, h⟩ | ⟨t, p, h, -⟩
    · have := State.applyBeacon_keepsTrim { s with peers := { s.peers with queue := rest } } e
      rwa [← h] at this
    · exact same (t := s.inbound State.applyBeacon) (by rw [h])
  case inboundOnset => exact same (s.inbound_clock _ fun _ _ => by simp)
  case inboundCoda => exact same (s.inbound_clock _ fun _ _ => by simp)
  case inboundHeat => exact same (s.inbound_clock _ fun _ _ => by simp)
  case inboundAlert => exact same (s.inbound_clock _ fun _ _ => by simp)
  case inboundAlertRaise => exact same (s.inbound_clock _ fun _ _ => by simp)
  case inboundQuery => exact same (s.inbound_clock _ fun _ _ => by simp)
  case inboundReply => exact same (s.inbound_clock _ fun _ _ => rfl)
  case vote | heardAlert | heardAlertRaise | peakRequest | eventClosingTime | closingExpiry | raiseSent =>
    refine same ?_
    dsimp only
    split <;> simp
  all_goals exact same (by simp)

/-- Every command keeps the clock's ranges and the capacity of its log. -/
theorem rule_keepsRanges (i : Instr) (condition : State → Bool) (effect : State → State)
    (hi : conductOf i = .rule condition effect) : s.clock.KeepsRanges (effect s).clock := by
  by_cases hp : i = .powerOnReset
  · subst hp
    cases hi
    exact ⟨fun _ => (⟨by decide, by decide, by decide, by decide, by decide⟩ : Clock.reset.sound),
      fun _ => (by decide : Clock.reset.log.length ≤ 4)⟩
  by_cases he : i = .peerEvaluation
  · subst he
    cases hi
    exact s.evaluatePeers_moves.keepsRanges
  · exact (rule_keepsTrim s i hp he condition effect hi).toKeepsRanges

/-! ### The cycle (R1, R2) -/

theorem isAdjusted_iff (next n : Nat) : isAdjusted next n = true ↔
    next % 10000 = 0 ∧ 1 ≤ next / 10000 ∧ next / 10000 ≤ n ∧ next < 10000000 := by
  simp [isAdjusted, and_assoc]

section
variable (c : Clock)

/-- The extra cycle of a boundary that is held. -/
theorem Clock.count_of_hold (h : c.hold = true) : c.count = { c with hold := false, advanced := 0 } := by
  simp [Clock.count, h]

/-- The end of the second. -/
theorem Clock.count_of_end (h : c.hold = false) (he : 10000000 ≤ c.time.sub + 1) : c.count = { c with
    time := ⟨c.time.sec + 1, 0⟩, advanced := 1, d := adjustment (c.time.sec + 1) c.F c.P } := by
  simp [Clock.count, h, he, Clock.refix]

/-- A millisecond boundary that a positive adjustment holds for one more cycle. -/
theorem Clock.count_of_held (h : c.hold = false) (hs : c.time.sub + 1 < 10000000) (hb : (c.time.sub + 1) % 10000 = 0)
    (hd : ((c.time.sub + 1) / 10000 : Nat) ≤ c.d) : c.count = { c with
    time := ⟨c.time.sec, c.time.sub + 1⟩, hold := true, advanced := 1 } := by
  have ha : isAdjusted (c.time.sub + 1) c.d.toNat = true := by
    rw [isAdjusted_iff]; omega
  simp [Clock.count, h, ha, Nat.not_le.mpr hs]

/-- A millisecond boundary that a negative adjustment skips. -/
theorem Clock.count_of_skipped (h : c.hold = false) (hs : c.time.sub + 1 < 10000000)
    (hb : (c.time.sub + 1) % 10000 = 0) (hd : c.d ≤ -((c.time.sub + 1) / 10000 : Nat)) : c.count = { c with
    time := ⟨c.time.sec, c.time.sub + 2⟩, advanced := 2 } := by
  have ha : isAdjusted (c.time.sub + 1) c.d.toNat = false := by
    rw [← Bool.not_eq_true, isAdjusted_iff]; omega
  have hn : isAdjusted (c.time.sub + 1) (-c.d).toNat = true := by
    rw [isAdjusted_iff]; omega
  simp [Clock.count, h, ha, hn, Nat.not_le.mpr hs]

/-- A plain count: no adjusted boundary is reached. -/
theorem Clock.count_of_plain (h : c.hold = false) (hs : c.time.sub + 1 < 10000000)
    (hp : (c.time.sub + 1) % 10000 = 0 →
      -((c.time.sub + 1) / 10000 : Nat) < c.d ∧ c.d < ((c.time.sub + 1) / 10000 : Nat)) : c.count = { c with
    time := ⟨c.time.sec, c.time.sub + 1⟩, advanced := 1 } := by
  have ha : isAdjusted (c.time.sub + 1) c.d.toNat = false := by
    rw [← Bool.not_eq_true, isAdjusted_iff]; omega
  have hn : isAdjusted (c.time.sub + 1) (-c.d).toNat = false := by
    rw [← Bool.not_eq_true, isAdjusted_iff]; omega
  simp [Clock.count, h, ha, hn, Nat.not_le.mpr hs]

/-- A cycle counts the subsecond up inside the second, and touches neither F, P nor the log. -/
theorem Clock.count_keepsTrim : c.KeepsTrim c.count := by
  have kept {d : Clock} (hs : c.time.sub < secondCycles → d.time.sub < secondCycles) (hF : d.F = c.F) (hP : d.P = c.P)
      (hl : d.log = c.log) : c.KeepsTrim d :=
    ⟨⟨fun ⟨h1, h⟩ => ⟨hs h1, hF ▸ hP ▸ h⟩, fun h => hl ▸ h⟩, hF⟩
  cases hh : c.hold
  case true => exact c.count_of_hold hh ▸ .of_write rfl rfl rfl (.inl rfl)
  by_cases he : 10000000 ≤ c.time.sub + 1
  · exact c.count_of_end hh he ▸ kept (fun _ => by simp) rfl rfl rfl
  have hs : c.time.sub + 1 < 10000000 := by omega
  by_cases hb : (c.time.sub + 1) % 10000 = 0
  · by_cases h1 : ((c.time.sub + 1) / 10000 : Nat) ≤ c.d
    · exact c.count_of_held hh hs hb h1 ▸ kept (fun _ => hs) rfl rfl rfl
    by_cases h2 : c.d ≤ -((c.time.sub + 1) / 10000 : Nat)
    · exact c.count_of_skipped hh hs hb h2 ▸ kept (fun _ => by dsimp only [secondCycles]; omega) rfl rfl rfl
    · exact c.count_of_plain hh hs (fun _ => by omega) ▸ kept (fun _ => hs) rfl rfl rfl
  · exact c.count_of_plain hh hs (fun h => absurd h hb) ▸ kept (fun _ => hs) rfl rfl rfl

end

/-- A cycle of a released part, on the state in which a failed attempt has ended. -/
theorem State.countCycle_eq (h : s.isReleased = true) : s.countCycle = { s.finishAbort with
    clock := s.finishAbort.clock.count
    trunk := s.finishAbort.trunk.cycle s.finishAbort.loader.fast
    loader := s.finishAbort.loader.cycle s.finishAbort.pins.hatch } := by
  simp [State.countCycle, h]

/-- While a reset is held nothing counts. -/
theorem State.countCycle_held (h : s.isReleased = false) : s.countCycle = s := by
  simp [State.countCycle, h]

theorem State.countCycle_keepsTrim : s.clock.KeepsTrim s.countCycle.clock := by
  cases h : s.isReleased
  · rw [s.countCycle_held h]
    exact .refl _
  · rw [s.countCycle_eq h]
    exact s.finishAbort_keepsTrim.trans (Clock.count_keepsTrim _)

/-! ### The invariants of the clock -/

/-- Every step keeps what all writes of the clock keep: its ranges. -/
theorem step_keeps_sound (t : State) (h : s.clock.sound) (ht : step s = .next t) : t.clock.sound :=
  step_keeps (fun u => u.clock.sound) (fun _ _ hu => hu)
    (fun x u _ hu => (x.effect_keepsRanges u).sound hu)
    (fun i condition effect hi u _ hu => (rule_keepsRanges u i condition effect hi).sound hu)
    (fun u hu => u.countCycle_keepsTrim.sound hu) s t h ht

/-- Every step keeps the step log within its four entries (R23). -/
theorem step_keeps_log (t : State) (h : s.clock.log.length ≤ 4) (ht : step s = .next t) : t.clock.log.length ≤ 4 :=
  step_keeps (fun u => u.clock.log.length ≤ 4) (fun _ _ hu => hu)
    (fun x u _ hu => (x.effect_keepsRanges u).log hu)
    (fun i condition effect hi u _ hu => (rule_keepsRanges u i condition effect hi).log hu)
    (fun u hu => u.countCycle_keepsTrim.log hu) s t h ht

/-- Where no evaluation is due, every command but a peer evaluation and a power-on reset leaves the trim (R3, R25). -/
theorem exec_keeps_trim (i : Instr) (hp : i ≠ .powerOnReset) (he : i ≠ .peerEvaluation) (t : State)
    (hd : s.clock.evaluationDue = false) (ht : exec i s = .next t) : t.clock.F = s.clock.F := by
  have settling : ∀ (x : Limit) (u : State), x.due u = true →
      u.clock.F = s.clock.F ∧ u.clock.evaluationDue = false →
      (x.effect u).clock.F = s.clock.F ∧ (x.effect u).clock.evaluationDue = false := by
    intro x u hx ⟨h1, h2⟩
    have hne : x ≠ .evaluation := by
      rintro rfl
      exact absurd hx (by simp [Limit.due, State.evaluationDue_eq, h2])
    have h := x.effect_keepsSettled u hne
    exact ⟨h.trim.trans h1, h.settled h2⟩
  rw [exec_eq_conduct] at ht
  cases hi : conductOf i with
  | limit x =>
    rw [hi] at ht
    rcases takeLimit_cases s x t ht with ⟨hx, rfl⟩ | ⟨-, rfl⟩
    · exact (settling x s hx ⟨rfl, hd⟩).1
    · rfl
  | rule condition effect =>
    rw [hi] at ht
    have hs := (settleFor_keeps _ settling 64 s ⟨rfl, hd⟩).1
    rcases carryOut_cases s condition effect t ht with ⟨-, rfl⟩ | ⟨-, rfl⟩
    · exact (rule_keepsTrim _ i hp he condition effect hi).trim.trans hs
    · exact hs

/-- A limit step that is not an evaluation leaves the trim, in every state. -/
theorem takeLimit_keeps_trim (x : Limit) (hx : x ≠ .evaluation) (t : State) (ht : takeLimit x s = .next t) :
    t.clock.F = s.clock.F := by
  rcases takeLimit_cases s x t ht with ⟨-, rfl⟩ | ⟨-, rfl⟩
  · exact (x.effect_keepsSettled s hx).trim
  · rfl

/-- Settles O56: each write of the clock keeps its ranges, and so does every step. -/
theorem clockStaysSound : Obligations.ClockStaysSound :=
  fun s t h ht => step_keeps_sound s t h ht

/-- Settles O59: F is written by evaluations alone, and no limit step brings one that was not due. -/
theorem trimChangesOnlyByEvaluation : Obligations.TrimChangesOnlyByEvaluation := by
  refine ⟨fun i s t hp he hd ht => exec_keeps_trim s i hp he t ?_ ht, fun i s t hi ht => ?_⟩
  · cases hc : s.clock.interval with
    | none => simp [Clock.evaluationDue, hc, Interval.complete]
    | peer e start => simp [Clock.evaluationDue, hc, Interval.complete]
    | reference e n => rcases hd e n hc with h | h <;> simp [Clock.evaluationDue, hc, Interval.complete, h]
  · rcases hi with hi | ⟨n, rfl | rfl | rfl⟩
    · simp only [List.mem_cons, List.not_mem_nil, or_false] at hi
      rcases hi with rfl | rfl | rfl | rfl | rfl | rfl | rfl | rfl | rfl | rfl | rfl | rfl | rfl <;>
        exact takeLimit_keeps_trim s _ (by decide) t ht
    all_goals exact takeLimit_keeps_trim s _ (by simp) t ht

end Sys2Proof.Machine

/-! ## The stores under the blocks' operations

`KeepsRecords` says what the scheduler's, the alert unit's and the clock's operations keep: the capacities of the
inbound queue, the history and the event list, the place of the open record, and the detector's state, and that no
record is opened. `KeepsState` speaks of operations that open a record too, and `KeepsLists` of those that move the
detector. -/

namespace Sys2Proof.Machine

/-- The capacities of the queue, the history and the event list, and the place of the open record, are kept
(R45, R76, R129). -/
structure State.KeepsLists (s t : State) : Prop where
  queue : s.peers.queue.length ≤ 4 → t.peers.queue.length ≤ 4
  history : s.sched.history.length ≤ 8 → t.sched.history.length ≤ 8
  events : s.co.events.length ≤ 8 → t.co.events.length ≤ 8
  oneOpen : s.oneOpen → t.oneOpen

/-- No record is open. -/
def State.allClosed (s : State) : Prop := ∀ e ∈ s.co.events, e.isOpen = false

/-- The detector's state stands besides. -/
structure State.KeepsState (s t : State) : Prop extends State.KeepsLists s t where
  detector : t.detector.state = s.detector.state

/-- No record is opened besides. -/
structure State.KeepsRecords (s t : State) : Prop extends State.KeepsState s t where
  closed : s.allClosed → t.allClosed

/-! ### How the operations keep them -/

section
variable {s t u : State}

theorem State.KeepsLists.trans (h : s.KeepsLists t) (k : t.KeepsLists u) : s.KeepsLists u :=
  ⟨k.queue ∘ h.queue, k.history ∘ h.history, k.events ∘ h.events, k.oneOpen ∘ h.oneOpen⟩

theorem State.KeepsState.trans (h : s.KeepsState t) (k : t.KeepsState u) : s.KeepsState u :=
  ⟨h.toKeepsLists.trans k.toKeepsLists, k.detector.trans h.detector⟩

theorem State.KeepsRecords.trans (h : s.KeepsRecords t) (k : t.KeepsRecords u) : s.KeepsRecords u :=
  ⟨h.toKeepsState.trans k.toKeepsState, k.closed ∘ h.closed⟩

theorem State.KeepsRecords.comp (k : t.KeepsRecords u) (h : s.KeepsRecords t) : s.KeepsRecords u := h.trans k

/-- An operation that changes records in place and opens none. -/
theorem State.KeepsRecords.of_map (f : Event → Event) (hf : ∀ e, e.isOpen = false → (f e).isOpen = false)
    (he : t.co.events = s.co.events.map f) (hq : t.peers.queue.length ≤ s.peers.queue.length)
    (hh : t.sched.history = s.sched.history) (hd : t.detector.state = s.detector.state) : s.KeepsRecords t := by
  refine ⟨⟨⟨hq.trans, fun h => hh ▸ h, fun h => ?_, fun h => ?_⟩, hd⟩, fun h => ?_⟩
  · simpa [he] using h
  · simp only [State.oneOpen, he, ← List.map_tail, List.forall_mem_map]
    exact fun e hm => hf e (h e hm)
  · simp only [State.allClosed, he, List.forall_mem_map]
    exact fun e hm => hf e (h e hm)

/-- An operation that leaves them all alone. -/
theorem State.KeepsRecords.of_eq (hq : t.peers.queue.length ≤ s.peers.queue.length)
    (hh : t.sched.history = s.sched.history) (he : t.co.events = s.co.events)
    (hd : t.detector.state = s.detector.state) : s.KeepsRecords t :=
  .of_map id (fun _ h => h) (by simpa using he) hq hh hd

/-- An operation that leaves four blocks alone. -/
theorem State.KeepsRecords.of_frame (hp : t.peers = s.peers) (hs : t.sched = s.sched) (hc : t.co = s.co)
    (hd : t.detector = s.detector) : s.KeepsRecords t :=
  .of_eq (by rw [hp]) (by rw [hs]) (by rw [hc]) (by rw [hd])

end

variable (s : State)

theorem State.KeepsRecords.refl : s.KeepsRecords s := .of_frame rfl rfl rfl rfl

/-! ### Station time -/

theorem State.applyStep_keepsRecords (x : Int) (cause : StepCause) : s.KeepsRecords (s.applyStep x cause) := by
  refine .of_map (fun e => if e.isOpen then { e with declaredAt := e.declaredAt.add x } else e) (fun e h => ?_) rfl ?_
    rfl rfl
  · simp [h]
  · simp [State.applyStep, Peers.move]

theorem ClockMoves.keepsRecords {R : Clock → Clock → Prop} {t : State} (h : ClockMoves R s t) : s.KeepsRecords t := by
  induction h with
  | refl => exact .refl s
  | map f _ _ ih => exact ih.trans (.of_frame rfl rfl rfl rfl)
  | step x cause _ ih => exact ih.trans (State.applyStep_keepsRecords _ x cause)

/-! ### The scheduler and its reports -/

theorem State.setSlot_keepsRecords (k : TxKind) (v : Slot) : s.KeepsRecords (s.setSlot k v) :=
  .of_eq le_rfl rfl rfl rfl

theorem State.updateEvent_keepsRecords (n : BitVec 8) (f : Event → Event)
    (hf : ∀ e, e.isOpen = false → (f e).isOpen = false) : s.KeepsRecords (s.updateEvent n f) := by
  refine .of_map (fun e => if e.serial == n then f e else e) (fun e h => ?_) rfl le_rfl rfl rfl
  split
  · exact hf e h
  · exact h

theorem State.setOutcome_keepsRecords (k : AlertKind) (n : BitVec 8) (o : AlertOutcome) :
    s.KeepsRecords (s.setOutcome k n o) :=
  s.updateEvent_keepsRecords n _ (fun _ h => by cases k <;> exact h)

theorem State.resolve_keepsRecords (k : AlertKind) (n : BitVec 8) (o : AlertOutcome) :
    s.KeepsRecords (s.resolve k n o) := by
  unfold State.resolve
  split
  · exact .of_frame rfl rfl rfl rfl
  · split
    · exact .refl s
    · exact (s.setOutcome_keepsRecords k n o).trans (.of_frame rfl rfl rfl rfl)

theorem State.reportAlert_keepsRecords (k : AlertKind) (n : BitVec 8) (o : SendOutcome) :
    s.KeepsRecords (s.reportAlert k n o) := by
  unfold State.reportAlert
  split
  · exact .refl s
  · have resolved (o : AlertOutcome) : s.KeepsRecords ((s.untrack k n).resolve k n o) :=
      (State.resolve_keepsRecords _ k n o).comp (.of_frame rfl rfl rfl rfl)
    dsimp only
    split
    · exact (resolved _).trans (.of_eq le_rfl rfl rfl rfl)
    · exact resolved _

theorem State.report_keepsRecords (k : TxKind) (ref : Ref) (o : SendOutcome) : s.KeepsRecords (s.report k ref o) := by
  unfold State.report
  split
  · exact .refl s
  · cases o <;> exact .of_eq le_rfl rfl rfl rfl
  · cases o <;> exact .of_eq le_rfl rfl rfl rfl
  · exact .of_frame (by simp) (by simp) (by simp) (by simp)
  · exact .of_frame (by simp) (by simp) (by simp) (by simp)
  · split
    · exact s.reportAlert_keepsRecords _ _ _
    · exact .refl s
  · split
    · exact s.reportAlert_keepsRecords _ _ _
    · exact .refl s

theorem State.leave_keepsRecords (k : TxKind) (r : Request) (o : SendOutcome) : s.KeepsRecords (s.leave k r o) := by
  refine State.KeepsRecords.trans (t := { s with sched := { s.sched with
    history := ((⟨k, r.time, r.capture, r.attempts, o⟩ : HistoryRecord) :: s.sched.history).take 8 } })
    ⟨⟨⟨id, fun _ => ?_, id, id⟩, rfl⟩, id⟩ (State.report_keepsRecords _ k r.ref o)
  simp

/-- A slot is written, and a request leaves. -/
theorem State.setSlot_leave_keepsRecords (j k : TxKind) (v : Slot) (r : Request) (o : SendOutcome) :
    s.KeepsRecords ((s.setSlot j v).leave k r o) :=
  (s.setSlot_keepsRecords j v).trans (State.leave_keepsRecords _ k r o)

theorem State.request_keepsRecords (k : TxKind) (body : List Byte) (ref : Ref) (time : Time) (deadline : Option Time) :
    s.KeepsRecords (s.request k body ref time deadline) := by
  unfold State.request
  dsimp only
  split
  · exact s.setSlot_keepsRecords _ _
  · exact s.setSlot_leave_keepsRecords _ _ _ _ _
  · exact s.setSlot_keepsRecords _ _
  · exact s.setSlot_leave_keepsRecords _ _ _ _ _

theorem State.choose_keepsRecords : s.KeepsRecords s.choose := by
  unfold State.choose
  split
  · exact .of_eq le_rfl rfl rfl rfl
  · exact .refl s

theorem State.reportBegun_keepsRecords (k : TxKind) (c : Time) : s.KeepsRecords (s.reportBegun k c) := by
  unfold State.reportBegun
  split
  · exact s.setSlot_keepsRecords _ _
  · exact .refl s
  · exact .refl s

theorem State.reportSent_keepsRecords (k : TxKind) : s.KeepsRecords (s.reportSent k) := by
  unfold State.reportSent
  split
  · exact s.setSlot_leave_keepsRecords _ _ _ _ _
  · exact .refl s
  · exact .refl s

theorem State.returned_keepsRecords (k : TxKind) (b : Bool) : s.KeepsRecords (s.returned k b) := by
  cases h : s.sched.slots.get k with
  | empty => simpa [State.returned, h] using State.KeepsRecords.refl s
  | ready r => simpa [State.returned, h] using State.KeepsRecords.refl s
  | inFlight f w =>
    rw [State.returned_eq s k f w b h]
    generalize (if b then { f with attempts := min (f.attempts + 1) 255 } else f : Request) = r
    dsimp only
    split
    · exact s.setSlot_leave_keepsRecords _ _ _ _ _
    · split
      · exact s.setSlot_leave_keepsRecords _ _ _ _ _
      · split
        · exact s.setSlot_leave_keepsRecords _ _ _ _ _
        · exact s.setSlot_keepsRecords _ _

theorem State.expire_keepsRecords (k : TxKind) : s.KeepsRecords (s.expire k) := by
  unfold State.expire
  split
  · exact .refl s
  · split
    · exact s.setSlot_leave_keepsRecords _ _ _ _ _
    · exact .refl s
  · exact .refl s
  · split
    · exact s.setSlot_leave_keepsRecords _ _ _ _ _
    · exact .refl s

theorem State.withdraw_keepsRecords (k : AlertKind) (n : BitVec 8) (c : Cause) : s.KeepsRecords (s.withdraw k n c) := by
  have gone (r : Request) (v : Slot) :
      s.KeepsRecords (((s.resolve k n c.outcome).setSlot k.slot v).leave k.slot r .withdrawn) :=
    (s.resolve_keepsRecords k n _).trans (State.setSlot_leave_keepsRecords _ _ _ _ _ _)
  unfold State.withdraw
  dsimp only
  split
  · exact .refl s
  · split
    · exact gone _ _
    · exact .refl s
  · split
    · exact (s.setSlot_keepsRecords _ _).trans (.of_frame rfl rfl rfl rfl)
    · split
      · split
        · exact gone _ _
        · exact .refl s
      · exact .refl s

theorem State.takeCandidate_keepsRecords : s.KeepsRecords s.takeCandidate := by
  unfold State.takeCandidate
  split
  · exact .refl s
  · dsimp only
    have point (p : Time) : s.KeepsRecords { s with sched := { s.sched with lastCandidate := some p } } :=
      .of_eq le_rfl rfl rfl rfl
    split
    · exact (point _).trans (State.request_keepsRecords _ _ _ _ _ _)
    · exact point _

/-! ### The heater controller -/

theorem State.requestHeat_keepsRecords : s.KeepsRecords s.requestHeat :=
  (State.request_keepsRecords _ _ _ _ _ _).comp (.of_frame rfl rfl rfl rfl)

theorem State.compute_keepsRecords : s.KeepsRecords s.compute := by
  have demand : s.KeepsRecords ({ s with heater := { s.heater with computationDue := false } } : State).computeDemand :=
    .of_eq le_rfl rfl rfl rfl
  have announced (u : State) : u.KeepsRecords u.announceChange := by
    unfold State.announceChange
    split
    · exact u.requestHeat_keepsRecords
    · exact .refl u
  have allocated (u : State) : u.KeepsRecords u.allocate := .of_frame (by simp) (by simp) (by simp) (by simp)
  exact (demand.trans (announced _)).trans (allocated _)

/-! ### The alert unit -/

theorem State.requestAlert_keepsRecords (n : BitVec 8) : s.KeepsRecords (s.requestAlert n) := by
  unfold State.requestAlert
  split
  · exact .refl s
  · exact (State.setOutcome_keepsRecords _ _ _ _).comp
      ((s.request_keepsRecords _ _ _ _ _).trans (.of_frame rfl rfl rfl rfl))

theorem State.startDeference_keepsRecords (n : BitVec 8) : s.KeepsRecords (s.startDeference n) := by
  unfold State.startDeference
  split
  · exact .refl s
  · dsimp only
    split
    · exact s.requestAlert_keepsRecords n
    · exact (State.setOutcome_keepsRecords _ _ _ _).comp (.of_frame rfl rfl rfl rfl)

theorem State.expireDeference_keepsRecords : s.KeepsRecords s.expireDeference := by
  unfold State.expireDeference
  split
  · exact .refl s
  · exact (s.requestAlert_keepsRecords _).trans (.of_frame rfl rfl rfl rfl)

theorem State.clearDeferenceOf_keepsRecords (n : BitVec 8) : s.KeepsRecords (s.clearDeferenceOf n) :=
  .of_frame (by simp) (by simp) (by simp) (by simp)

theorem State.alertMatched_keepsRecords (n : BitVec 8) : s.KeepsRecords (s.alertMatched n) := by
  unfold State.alertMatched
  split
  · exact .refl s
  · split
    case h_2 => exact (s.clearDeferenceOf_keepsRecords n).trans (State.resolve_keepsRecords _ _ _ _)
    case h_3 => exact s.withdraw_keepsRecords _ _ _
    all_goals exact .refl s

theorem State.raiseMatched_keepsRecords (n : BitVec 8) : s.KeepsRecords (s.raiseMatched n) := by
  unfold State.raiseMatched
  split
  · exact .refl s
  · split
    case h_3 => exact s.withdraw_keepsRecords _ _ _
    all_goals exact .refl s

theorem State.closeAlert_keepsRecords (n : BitVec 8) : s.KeepsRecords (s.closeAlert n) := by
  unfold State.closeAlert
  split
  · exact .refl s
  · split
    case h_2 => exact (s.clearDeferenceOf_keepsRecords n).trans (State.resolve_keepsRecords _ _ _ _)
    case h_3 => exact s.withdraw_keepsRecords _ _ _
    all_goals exact .refl s

theorem State.closeRaise_keepsRecords (n : BitVec 8) : s.KeepsRecords (s.closeRaise n) := by
  unfold State.closeRaise
  split
  · exact .refl s
  · split
    case h_3 => exact s.withdraw_keepsRecords _ _ _
    all_goals exact .refl s

theorem State.alertClosed_keepsRecords (n : BitVec 8) : s.KeepsRecords (s.alertClosed n) :=
  (s.closeAlert_keepsRecords n).trans (State.closeRaise_keepsRecords _ n)

theorem State.noticeStrong_keepsRecords (n : Nat) : s.KeepsRecords (s.noticeStrong n) := by
  unfold State.noticeStrong
  dsimp only
  split
  · exact .of_frame rfl rfl rfl rfl
  · split
    · exact (State.setOutcome_keepsRecords _ _ _ _).comp
        ((s.request_keepsRecords _ _ _ _ _).trans (.of_frame rfl rfl rfl rfl))
    · exact .of_frame rfl rfl rfl rfl

theorem State.nextSlot_keepsRecords (p : Time) : s.KeepsRecords (s.nextSlot p) :=
  .of_frame (by simp) (by simp) (by simp) (by simp)

/-! ### The trunk controller -/

theorem State.deliver_keepsRecords (f : Assembly) : s.KeepsRecords (s.deliver f) := by
  unfold State.deliver
  split
  · refine ⟨⟨⟨fun _ => ?_, id, id, id⟩, rfl⟩, id⟩
    simp only [List.length_append, List.length_singleton]
    omega
  · exact .of_frame rfl rfl rfl rfl

theorem State.bodyCharacter_keepsRecords (b : Byte) : s.KeepsRecords (s.bodyCharacter b) := by
  unfold State.bodyCharacter
  split
  · exact .of_frame rfl rfl rfl rfl
  · exact .refl s
  · split
    · exact .of_frame rfl rfl rfl rfl
    · unfold State.checkCharacter
      dsimp only
      split
      · split
        · exact .of_frame rfl rfl rfl rfl
        · exact (State.deliver_keepsRecords _ _).comp (.of_frame rfl rfl rfl rfl)
      · exact .of_frame rfl rfl rfl rfl

theorem State.takeCharacter_keepsRecords (w : BitVec 169) (c : Time) : s.KeepsRecords (s.takeCharacter w c) := by
  unfold State.takeCharacter
  split
  · dsimp only
    split
    · exact .of_frame (by simp) (by simp) (by simp) (by simp)
    · exact (State.bodyCharacter_keepsRecords _ _).comp (.of_frame rfl rfl rfl rfl)
  · exact .of_frame rfl rfl rfl rfl

theorem State.receiveCharacter_keepsRecords (w : BitVec 169) : s.KeepsRecords (s.receiveCharacter w) := by
  have own (u : State) : u.KeepsRecords u.ownCharacter := by
    unfold State.ownCharacter
    split
    · split
      · split
        · exact (State.reportSent_keepsRecords _ _).comp (.of_frame rfl rfl rfl rfl)
        · exact .of_frame rfl rfl rfl rfl
      · exact .refl u
    · exact .refl u
    · exact .refl u
  unfold State.receiveCharacter
  split
  · exact (own _).comp ((State.takeCharacter_keepsRecords _ w _).comp (.of_frame rfl rfl rfl rfl))
  · exact .refl s
  · exact .refl s
  · exact .refl s

theorem State.startSending_keepsRecords : s.KeepsRecords s.startSending := by
  unfold State.startSending
  split
  · split
    · exact (State.returned_keepsRecords _ _ _).comp (.of_frame rfl rfl rfl rfl)
    · exact (State.reportBegun_keepsRecords _ _ _).comp (.of_frame rfl rfl rfl rfl)
  · exact .refl s
  · exact .refl s

theorem State.loseArbitration_keepsRecords : s.KeepsRecords s.loseArbitration := by
  unfold State.loseArbitration
  split
  · dsimp only
    split
    · exact (State.returned_keepsRecords _ _ _).comp (.of_eq le_rfl rfl rfl rfl)
    · exact (State.returned_keepsRecords _ _ _).comp (.of_eq le_rfl rfl rfl rfl)
  · exact .refl s
  · exact .refl s

theorem State.faultDrive_keepsRecords : s.KeepsRecords s.faultDrive := by
  unfold State.faultDrive
  split
  · exact (State.returned_keepsRecords _ _ _).comp (.of_frame rfl rfl rfl rfl)
  · exact .refl s
  · exact .refl s

theorem State.takeGlitch_keepsRecords : s.KeepsRecords s.takeGlitch := by
  unfold State.takeGlitch
  split
  · exact s.faultDrive_keepsRecords
  · exact .of_frame rfl rfl rfl rfl

theorem State.readCharacter_keepsRecords (w : BitVec 169) : s.KeepsRecords (s.readCharacter w) := by
  unfold State.readCharacter
  split
  · exact s.faultDrive_keepsRecords
  · exact s.loseArbitration_keepsRecords.trans (State.receiveCharacter_keepsRecords _ w)
  · split
    · exact .of_frame rfl rfl rfl rfl
    · exact s.receiveCharacter_keepsRecords w

end Sys2Proof.Machine

/-! ## The stores under every command -/

namespace Sys2Proof.Machine

variable (s : State)

/-! ### The event list (R129, R130) -/

theorem State.consume_keepsRecords (ns : List Station) : s.KeepsRecords (s.consume ns) := by
  have kept (p : Peers) : (ns.foldl (fun p n => p.setRow n (p.row n).consume) p).queue = p.queue := by
    induction ns generalizing p with
    | nil => rfl
    | cons n ns ih => exact ih _
  exact .of_eq (by simp [State.consume, State.mapPeers, kept]) rfl rfl rfl

theorem State.closeRecord_keepsRecords (n : BitVec 8) : s.KeepsRecords (s.closeRecord n) :=
  (State.alertClosed_keepsRecords _ n).comp (s.updateEvent_keepsRecords n _ fun _ _ => rfl)

theorem State.closeOpen_keepsRecords : s.KeepsRecords s.closeOpen := by
  unfold State.closeOpen
  split
  · exact .refl s
  · exact s.closeRecord_keepsRecords _

/-- Where only the newest record can be open, none is after the open one has closed. -/
theorem State.closeOpen_allClosed (h : s.oneOpen) : s.closeOpen.allClosed := by
  unfold State.closeOpen
  split
  · rename_i hn
    intro e he
    simpa using List.find?_eq_none.mp hn e he
  · rename_i x hx
    refine (State.alertClosed_keepsRecords _ x.serial).closed fun e he => ?_
    obtain ⟨y, hy, rfl⟩ := List.mem_map.mp he
    split
    · rfl
    · rename_i hne
      have hxo : x.isOpen = true := by simpa using List.find?_some hx
      have hxm : x ∈ s.co.events := List.mem_of_find?_eq_some hx
      cases hev : s.co.events with
      | nil => simp [hev] at hy
      | cons a l =>
        have tail : ∀ z ∈ l, z.isOpen = false := by simpa [State.oneOpen, hev] using h
        rw [hev] at hy hxm
        rcases List.mem_cons.mp hy with rfl | hy
        · rcases List.mem_cons.mp hxm with rfl | hxm
          · simp at hne
          · exact absurd (tail x hxm) (by simp [hxo])
        · exact tail y hy

/-- The oldest of eight records makes room. -/
theorem State.removeOldest_room (h : s.co.events.length ≤ 8) : s.removeOldest.co.events.length < 8 := by
  unfold State.removeOldest
  split
  · assumption
  · split
    · rename_i hn
      rw [List.getLast?_eq_none_iff.mp hn]
      decide
    · simp only [State.clearDeferenceOf_frame, List.length_dropLast]
      omega

theorem State.removeOldest_allClosed (h : s.allClosed) : s.removeOldest.allClosed := by
  unfold State.removeOldest
  split
  · exact h
  · split
    · exact h
    · simp only [State.allClosed, State.clearDeferenceOf_frame]
      exact fun e he => h e (List.mem_of_mem_dropLast he)

/-- A record enters the list once no other is open. -/
theorem State.enterRecord_keepsState {s u : State} (h : s.KeepsRecords u) (hc : s.oneOpen → u.allClosed) (e : Event) :
    s.KeepsState (u.enterRecord e) := by
  have hp : u.removeOldest.peers = u.peers := by
    unfold State.removeOldest
    (repeat' split) <;> simp
  have hs : u.removeOldest.sched = u.sched := by
    unfold State.removeOldest
    (repeat' split) <;> simp
  have hd : u.removeOldest.detector = u.detector := by
    unfold State.removeOldest
    (repeat' split) <;> simp
  refine ⟨⟨fun k => ?_, fun k => ?_, fun k => ?_, fun k => ?_⟩, ?_⟩
  · simpa [State.enterRecord, hp] using h.queue k
  · simpa [State.enterRecord, hs] using h.history k
  · simpa [State.enterRecord] using u.removeOldest_room (h.events k)
  · exact u.removeOldest_allClosed (hc k)
  · simpa [State.enterRecord, hd] using h.detector

/-! ### The coincidence unit -/

/-- Taking members in leaves a record's open flag. -/
theorem foldl_isOpen (f : Event → Member → Event) (hf : ∀ e m, (f e m).isOpen = e.isOpen) (ms : List Member)
    (e : Event) : (ms.foldl f e).isOpen = e.isOpen := by
  induction ms generalizing e with
  | nil => rfl
  | cons m ms ih => exact (ih _).trans (hf e m)

theorem State.tellOpened_keepsRecords (b : Bool) : s.KeepsRecords (s.tellOpened b) := by
  unfold State.tellOpened
  split
  · exact .refl s
  · exact .of_frame (by simp) (by simp) (by simp) (by simp)

theorem State.mapCoCounters_keepsRecords (f : CoCounters → CoCounters) : s.KeepsRecords (s.mapCoCounters f) :=
  .of_eq le_rfl rfl rfl rfl

theorem State.declare_keepsState (o : Member) (ms : List Member) : s.KeepsState (s.declare o ms) := by
  have closed : s.KeepsRecords (s.closeOpen.consume (ms.map (fun m => m.station))) :=
    s.closeOpen_keepsRecords.trans (State.consume_keepsRecords _ _)
  exact ((State.enterRecord_keepsState closed
    (fun h => (State.consume_keepsRecords _ _).closed (s.closeOpen_allClosed h)) _).trans
      ((State.mapCoCounters_keepsRecords _ _).trans ((State.startDeference_keepsRecords _ _).trans
        (State.tellOpened_keepsRecords _ _))).toKeepsState)

theorem State.adopt_keepsState (h : Heard) : s.KeepsState (s.adopt h) := by
  have swept (u : State) (n : BitVec 8) (ms : List Member) :
      u.KeepsRecords (u.updateEvent n (fun e => ms.foldl (Event.sweep h.contributors) e)) :=
    u.updateEvent_keepsRecords n _ fun e he =>
      (foldl_isOpen (Event.sweep h.contributors) (fun _ _ => rfl) ms e).trans he
  exact (State.enterRecord_keepsState s.closeOpen_keepsRecords s.closeOpen_allClosed _).trans
    ((State.consume_keepsRecords _ _).trans ((swept _ _ _).trans ((State.mapCoCounters_keepsRecords _ _).trans
      (State.tellOpened_keepsRecords _ _)))).toKeepsState

theorem State.join_keepsRecords (n : BitVec 8) (m : Member) : s.KeepsRecords (s.join n m) := by
  unfold State.join
  dsimp only
  refine (State.mapCoCounters_keepsRecords _ _).comp ((State.updateEvent_keepsRecords _ _ _ ?_).comp
    (s.consume_keepsRecords _))
  exact fun _ he => he

theorem State.fold_keepsRecords (n : BitVec 8) (ms : List Member) : s.KeepsRecords (s.fold n ms) := by
  unfold State.fold
  dsimp only
  refine (State.mapCoCounters_keepsRecords _ _).comp ((State.updateEvent_keepsRecords _ _ _ ?_).comp
    (s.consume_keepsRecords _))
  exact fun e he => (foldl_isOpen Event.take (fun _ _ => rfl) ms e).trans he

theorem State.takeVote_keepsState (n : Station) (t : Time) : s.KeepsState (s.takeVote n t) := by
  have vote : s.KeepsState (s.vote t) := by
    unfold State.vote
    dsimp only
    split
    · split
      · exact (State.KeepsRecords.refl s).toKeepsState
      · split
        · exact (s.fold_keepsRecords _ _).toKeepsState
        · exact s.declare_keepsState _ _
    · exact (State.KeepsRecords.refl s).toKeepsState
  unfold State.takeVote
  split
  · exact (s.mapCoCounters_keepsRecords _).toKeepsState
  · split
    · exact vote
    · split
      · exact (s.join_keepsRecords _ _).toKeepsState
      · exact vote

theorem State.matchAlert_keepsRecords (n : BitVec 8) (h : Heard) : s.KeepsRecords (s.matchAlert n h) := by
  refine (State.alertMatched_keepsRecords _ _).comp (s.updateEvent_keepsRecords _ _ ?_)
  exact fun _ he => he

theorem State.hearAlert_keepsState (b : List Byte) : s.KeepsState (s.hearAlert b) := by
  unfold State.hearAlert
  dsimp only
  split
  · exact (s.mapCoCounters_keepsRecords _).toKeepsState
  · split
    · exact (s.matchAlert_keepsRecords _ _).toKeepsState
    · exact s.adopt_keepsState _

theorem State.hearRaise_keepsRecords (b : List Byte) : s.KeepsRecords (s.hearRaise b) := by
  unfold State.hearRaise
  dsimp only
  split
  · exact .of_eq le_rfl rfl rfl rfl
  · split
    · refine (State.raiseMatched_keepsRecords _ _).comp (s.updateEvent_keepsRecords _ _ ?_)
      exact fun _ he => he
    · exact .of_eq le_rfl rfl rfl rfl

theorem State.takePeak_keepsRecords (n : Station) (t : Time) (x : Nat) : s.KeepsRecords (s.takePeak n t x) := by
  unfold State.takePeak
  split
  · exact .refl s
  · split
    · refine s.updateEvent_keepsRecords _ _ ?_
      exact fun _ he => he
    · exact .refl s

theorem State.takeClosing_keepsRecords (n : BitVec 8) : s.KeepsRecords (s.takeClosing n) := by
  unfold State.takeClosing
  split
  · exact .refl s
  · split
    · exact (s.closeRecord_keepsRecords n).trans (.of_frame (by simp) (by simp) (by simp) (by simp))
    · exact .refl s

theorem State.takeRaiseSent_keepsRecords (n : BitVec 8) : s.KeepsRecords (s.takeRaiseSent n) := by
  refine s.updateEvent_keepsRecords n _ ?_
  exact fun _ he => he

theorem State.popRequest_keepsRecords : s.KeepsRecords s.popRequest := .of_eq le_rfl rfl rfl rfl

theorem State.release_keepsRecords : s.KeepsRecords s.release := .of_eq le_rfl rfl rfl rfl

theorem State.doneFor_keepsRecords (x : Source) : s.KeepsRecords (s.doneFor x) := by
  cases x
  · exact s.release_keepsRecords
  · exact .refl s

/-! ### The peer table -/

theorem State.inbound_keepsRecords (f : InEntry → State → State) (hf : ∀ e u, State.KeepsRecords u (f e u)) :
    s.KeepsRecords (s.inbound f) := by
  rcases s.inbound_cases f with ⟨e, rest, hq, h⟩ | ⟨t, p, h, hq⟩ <;> rw [h]
  · exact (hf e _).comp (.of_eq (by simp [hq]) rfl rfl rfl)
  · exact .of_eq hq rfl rfl rfl

theorem State.applyBeacon_keepsRecords (e : InEntry) : s.KeepsRecords (State.applyBeacon e s) :=
  (State.reexamine_moves _).keepsRecords.comp (.of_eq le_rfl rfl rfl rfl)

theorem State.applyOnset_keepsRecords (e : InEntry) : s.KeepsRecords (State.applyOnset e s) := by
  unfold State.applyOnset
  dsimp only
  (repeat' split) <;> exact .of_eq le_rfl rfl rfl rfl

theorem State.applyCoda_keepsRecords (e : InEntry) : s.KeepsRecords (State.applyCoda e s) := by
  unfold State.applyCoda
  dsimp only
  split <;> exact .of_eq le_rfl rfl rfl rfl

theorem State.applyQuery_keepsRecords (e : InEntry) : s.KeepsRecords (State.applyQuery e s) := by
  have reply (u : State) (n : Nat) (b : Byte) (d : List Byte) : u.KeepsRecords (u.requestReply n b d) :=
    (State.request_keepsRecords _ _ _ _ _ _).comp (.of_frame rfl rfl rfl rfl)
  unfold State.applyQuery State.takeQuery
  dsimp only
  split
  · split
    · exact .of_frame rfl rfl rfl rfl
    · split
      · exact (reply _ _ _ _).comp (.of_frame rfl rfl rfl rfl)
      · exact (reply _ _ _ _).comp (.of_frame rfl rfl rfl rfl)
  · exact .refl s

/-! ### The detector and the intake -/

theorem State.mapDetector_keepsLists (f : Detector → Detector) : s.KeepsLists (s.mapDetector f) := ⟨id, id, id, id⟩

theorem State.endTrigger_keepsRecords (x : EndReason) : s.KeepsRecords (s.endTrigger x) := by
  have told (u : State) : u.KeepsRecords (u.noticeTriggered false) := .of_frame (by simp) (by simp) (by simp) (by simp)
  unfold State.endTrigger
  split
  · exact told s
  · exact (told _).comp ((State.request_keepsRecords _ _ _ _ _ _).comp (.of_eq le_rfl rfl rfl rfl))

theorem State.onset_keepsLists (t : Time) (b : Bool) (c : Nat) : s.KeepsLists (s.onset t b c) := by
  have told (u : State) : u.KeepsRecords (u.noticeTriggered true) := .of_frame (by simp) (by simp) (by simp) (by simp)
  have asked (u : State) (r : CoRequest) : u.KeepsRecords (u.askCo r) := .of_eq le_rfl rfl rfl rfl
  have written (u : State) (r : Row) (n : Station) : u.KeepsRecords (u.mapPeers (fun p => p.setRow n r)) :=
    .of_eq le_rfl rfl rfl rfl
  exact (s.mapDetector_keepsLists _).trans ((written _ _ _).trans ((State.request_keepsRecords _ _ _ _ _ _).trans
    ((asked _ _).trans (told _)))).toKeepsLists

theorem State.strongTest_keepsRecords : s.KeepsRecords s.strongTest := by
  unfold State.strongTest
  split
  · exact .refl s
  · split
    · exact (State.noticeStrong_keepsRecords _ _).comp (.of_eq le_rfl rfl rfl rfl)
    · exact .refl s

theorem State.handSet_keepsLists (x : Delivered) (b : Bool) : s.KeepsLists (s.handSet x b) := by
  have acted (u : State) (t : Time) (c : Nat) : u.KeepsLists (u.actOnSet t b c) := by
    unfold State.actOnSet
    split
    · exact (State.KeepsRecords.refl u).toKeepsLists
    · exact u.mapDetector_keepsLists _
    · split
      · exact u.onset_keepsLists _ _ _
      · exact (State.KeepsRecords.refl u).toKeepsLists
    · unfold State.trackTrigger
      dsimp only
      have tracked := (u.mapDetector_keepsLists
        (fun d => { d with record := d.record.map (fun r => r.advance c) })).trans
          (State.strongTest_keepsRecords _).toKeepsLists
      split
      · exact tracked.trans ((State.endTrigger_keepsRecords _ _).toKeepsLists.trans (State.mapDetector_keepsLists _ _))
      · exact tracked
    · exact u.mapDetector_keepsLists _
  have processed (u : State) : u.KeepsLists (u.processSet x b) :=
    (u.mapDetector_keepsLists fun _ => _).trans (acted _ _ _)
  unfold State.handSet
  split
  · split
    · exact (s.mapDetector_keepsLists _).trans (processed _)
    all_goals exact processed s
  · exact (State.KeepsRecords.refl s).toKeepsLists

theorem State.mapIntake_keepsRecords (f : Intake → Intake) : s.KeepsRecords (s.mapIntake f) := .of_frame rfl rfl rfl rfl

theorem State.tick_keepsLists (p : Time) : s.KeepsLists (s.tick p) := by
  unfold State.tick
  dsimp only
  split
  · exact (s.mapIntake_keepsRecords _).toKeepsLists
  · exact (s.mapIntake_keepsRecords _).toKeepsLists
  · split
    · unfold State.deliverOldest
      exact ((s.mapIntake_keepsRecords _).trans (State.mapIntake_keepsRecords _ _)).toKeepsLists.trans
        (State.handSet_keepsLists _ _ _)
    · unfold State.repeatLast
      have repeated (f g : Intake → Intake) := (s.mapIntake_keepsRecords f).trans (State.mapIntake_keepsRecords _ g)
      dsimp only
      split
      · exact (repeated _ _).toKeepsLists
      · exact ((repeated _ _).trans (State.mapIntake_keepsRecords _ _)).toKeepsLists.trans
          (State.handSet_keepsLists _ _ _)

theorem State.halt_keepsLists : s.KeepsLists s.halt := by
  unfold State.halt
  dsimp only
  split
  · exact (s.endTrigger_keepsRecords _).toKeepsLists.trans
      ((State.mapDetector_keepsLists _ _).trans (State.mapDetector_keepsLists _ _))
  all_goals exact s.mapDetector_keepsLists _

theorem State.endByForce_keepsLists : s.KeepsLists s.endByForce :=
  (s.endTrigger_keepsRecords _).toKeepsLists.trans (State.mapDetector_keepsLists _ _)

theorem State.enterShed_keepsLists : s.KeepsLists s.enterShed := by
  have allocated (u : State) : u.KeepsRecords u.allocate := .of_frame (by simp) (by simp) (by simp) (by simp)
  have closed : s.KeepsRecords (s.mapBattery (fun b => { b with
      Q := min b.Q (s.profile.qCap / 10), low := 0, recovery := 0, stage := .shed, loadoff := true, chgen := false
      counters := { b.counters with
        shedEntries := bump16 b.counters.shedEntries
        stageChanges := bump16 b.counters.stageChanges } })).closePort := .of_frame rfl rfl rfl rfl
  exact closed.toKeepsLists.trans ((State.halt_keepsLists _).trans (allocated _).toKeepsLists)

/-! ### Limit steps, commands and cycles -/

/-- Every limit step keeps the capacities and the place of the open record. -/
theorem Limit.effect_keepsLists (x : Limit) : s.KeepsLists (x.effect s) := by
  have same {t : State} (hp : t.peers.queue.length ≤ s.peers.queue.length) (hs : t.sched = s.sched) (hc : t.co = s.co)
      (hd : t.detector = s.detector) : s.KeepsLists t :=
    (State.KeepsRecords.of_eq hp (by rw [hs]) (by rw [hc]) (by rw [hd])).toKeepsLists
  cases x
  case outlier => exact s.outlierLimit_moves.keepsRecords.toKeepsLists
  case evaluation => exact s.evaluateReference_moves.keepsRecords.toKeepsLists
  case refReturn => exact s.returnReference_moves.keepsRecords.toKeepsLists
  case missing => exact s.loseReference_moves.keepsRecords.toKeepsLists
  case age => exact s.ageLimit_moves.keepsRecords.toKeepsLists
  case timePart n =>
    have dropped : s.KeepsRecords (s.mapPeers fun p => p.setRow n { p.row n with time := none }) :=
      .of_eq le_rfl rfl rfl rfl
    exact (dropped.trans (State.reexamine_moves _).keepsRecords).toKeepsLists
  case stall => exact (s.mapIntake_keepsRecords _).toKeepsLists.trans (State.halt_keepsLists _)
  case warmup | holdoff => exact s.mapDetector_keepsLists (fun d => { d with state := .armed })
  case forced => exact s.endByForce_keepsLists
  case shedEntry => exact s.enterShed_keepsLists
  case resync | shedExit | hold =>
    exact same (by simp [Limit.effect]) (by simp [Limit.effect]) (by simp [Limit.effect]) (by simp [Limit.effect])
  case conflict | disturbed | heatPart | triggerPart => exact same le_rfl rfl rfl rfl

theorem State.boundaryEvent_keepsRecords (r : Readings) : s.KeepsRecords (s.boundaryEvent r) := by
  unfold State.boundaryEvent
  split
  · exact .refl s
  · dsimp only
    split <;> refine .of_eq ?_ ?_ ?_ ?_ <;> simp [State.countBoundary, State.mapLoader, State.agePeers, State.mapPeers]

theorem State.endLoading_keepsRecords (o : LoadOutcome) : s.KeepsRecords (s.endLoading o) :=
  .of_frame (by simp) (by simp) (by simp) (by simp)

theorem State.endAttempt_keepsRecords (n : Nat) (x : ProfileEnd) : s.KeepsRecords (s.endAttempt n x) :=
  .of_frame (by simp) (by simp) (by simp) (by simp)

/-- Every command but a reset and a tick keeps the capacities, the place of the open record and the detector's state. -/
theorem rule_keepsState (i : Instr) (hp : i ≠ .powerOnReset) (hr : i ≠ .pinReset) (ht : i ≠ .tick)
    (condition : State → Bool) (effect : State → State) (hi : conductOf i = .rule condition effect) :
    s.KeepsState (effect s) := by
  have frame {t : State} (hp : t.peers = s.peers) (hs : t.sched = s.sched) (hc : t.co = s.co)
      (hd : t.detector = s.detector) : s.KeepsState t := (State.KeepsRecords.of_frame hp hs hc hd).toKeepsState
  have records {t : State} (h : s.KeepsRecords t) : s.KeepsState t := h.toKeepsState
  cases i <;> cases hi
  case powerOnReset => exact absurd rfl hp
  case pinReset => exact absurd rfl hr
  case resetRelease => exact frame rfl rfl rfl rfl
  case profileAttemptEnd => exact records (s.endAttempt_keepsRecords _ _)
  case secondBoundaryEvent => exact records (s.boundaryEvent_keepsRecords _)
  case refrxCharacter => exact records (s.refCharacter_moves _ _).keepsRecords
  case referenceLoss =>
    exact records ((State.loseReference_moves (s.mapClock _)).keepsRecords.comp (.of_frame rfl rfl rfl rfl))
  case peerEvaluation => exact records s.evaluatePeers_moves.keepsRecords
  case characterReceived => exact records (s.readCharacter_keepsRecords _)
  case choice => exact records s.choose_keepsRecords
  case txStart => exact records s.startSending_keepsRecords
  case arbitrationLoss => exact records s.loseArbitration_keepsRecords
  case driveFault => exact records s.faultDrive_keepsRecords
  case inboundBeacon => exact records (s.inbound_keepsRecords _ fun e u => u.applyBeacon_keepsRecords e)
  case inboundOnset => exact records (s.inbound_keepsRecords _ fun e u => u.applyOnset_keepsRecords e)
  case inboundCoda => exact records (s.inbound_keepsRecords _ fun e u => u.applyCoda_keepsRecords e)
  case inboundHeat => exact records (s.inbound_keepsRecords _ fun _ _ => .of_eq le_rfl rfl rfl rfl)
  case inboundAlert => exact records (s.inbound_keepsRecords _ fun _ _ => .of_eq le_rfl rfl rfl rfl)
  case inboundAlertRaise => exact records (s.inbound_keepsRecords _ fun _ _ => .of_eq le_rfl rfl rfl rfl)
  case inboundQuery => exact records (s.inbound_keepsRecords _ fun e u => u.applyQuery_keepsRecords e)
  case inboundReply => exact records (s.inbound_keepsRecords _ fun _ u => .refl u)
  case requestDeadline => exact records (s.expire_keepsRecords _)
  case beaconCandidatePoint => exact records s.takeCandidate_keepsRecords
  case tick => exact absurd rfl ht
  case vote =>
    dsimp only
    split
    · exact (s.popRequest_keepsRecords.toKeepsState.trans (State.takeVote_keepsState _ _ _)).trans
        (State.doneFor_keepsRecords _ _).toKeepsState
    · exact records (.refl s)
  case heardAlert =>
    dsimp only
    split
    · exact (s.popRequest_keepsRecords.toKeepsState.trans (State.hearAlert_keepsState _ _)).trans
        (State.release_keepsRecords _).toKeepsState
    · exact records (.refl s)
  case heardAlertRaise =>
    dsimp only
    split
    · exact records ((s.popRequest_keepsRecords.trans (State.hearRaise_keepsRecords _ _)).trans
        (State.release_keepsRecords _))
    · exact records (.refl s)
  case peakRequest =>
    dsimp only
    split
    · exact records ((s.popRequest_keepsRecords.trans (State.takePeak_keepsRecords _ _ _ _)).trans
        (State.doneFor_keepsRecords _ _))
    · exact records (.refl s)
  case eventClosingTime =>
    dsimp only
    split
    · exact records (.of_eq le_rfl rfl rfl rfl)
    · exact records (.refl s)
  case closingExpiry =>
    dsimp only
    split
    · exact records (s.popRequest_keepsRecords.trans (State.takeClosing_keepsRecords _ _))
    · exact records (.refl s)
  case raiseSent =>
    dsimp only
    split
    · exact records (s.popRequest_keepsRecords.trans (State.takeRaiseSent_keepsRecords _ _))
    · exact records (.refl s)
  case deferenceExpiry => exact records s.expireDeference_keepsRecords
  case computation => exact records s.compute_keepsRecords
  case announcementPoint =>
    exact records ((State.requestHeat_keepsRecords _).comp (.of_frame rfl rfl rfl rfl))
  case glitch => exact records s.takeGlitch_keepsRecords
  all_goals exact frame (by simp) (by simp) (by simp) (by simp)

/-- Every command keeps the capacities and the place of the open record. -/
theorem rule_keepsLists (i : Instr) (condition : State → Bool) (effect : State → State)
    (hi : conductOf i = .rule condition effect) : s.KeepsLists (effect s) := by
  have reset {t : State} (hp : t.peers = Peers.reset) (hs : t.sched = Sched.reset) (hc : t.co = Coincidence.reset) :
      s.KeepsLists t :=
    ⟨fun _ => by simp [hp, Peers.reset], fun _ => by simp [hs, Sched.reset], fun _ => by simp [hc, Coincidence.reset],
      fun _ => by simp [State.oneOpen, hc, Coincidence.reset]⟩
  by_cases hp : i = .powerOnReset
  · subst hp
    cases hi
    exact reset rfl rfl rfl
  by_cases hr : i = .pinReset
  · subst hr
    cases hi
    exact reset rfl rfl rfl
  by_cases ht : i = .tick
  · subst ht
    cases hi
    exact s.tick_keepsLists _
  · exact (rule_keepsState s i hp hr ht condition effect hi).toKeepsLists

/-- A cycle moves none of the lists. -/
theorem State.countCycle_keepsRecords : s.KeepsRecords s.countCycle := by
  cases h : s.isReleased
  · rw [s.countCycle_held h]
    exact .refl s
  · rw [s.countCycle_eq h]
    exact .of_frame (by simp) (by simp) (by simp) (by simp)

/-- Every step keeps what every operation keeps of the lists. -/
theorem step_keeps_lists (P : State → Prop) (hP : ∀ s t : State, s.KeepsLists t → P s → P t) (t : State) (h : P s)
    (ht : step s = .next t) : P t :=
  step_keeps P (fun u _ hu => hP u _ ⟨id, id, id, id⟩ hu)
    (fun x u _ hu => hP u _ (x.effect_keepsLists u) hu)
    (fun i condition effect hi u _ hu => hP u _ (rule_keepsLists u i condition effect hi) hu)
    (fun u hu => hP u _ u.countCycle_keepsRecords.toKeepsLists hu) s t h ht

end Sys2Proof.Machine

/-! ## The elastic store, LOADOFF and the counts of readings under every command -/

namespace Sys2Proof.Machine

variable (s : State)

/-! ### The elastic store (R82, R203) -/

/-- The elastic store is of a depth of the table and within it, and empty before the end of loading. -/
def State.storeFits (s : State) : Prop :=
  (s.loader.profile.depth = 4 ∨ s.loader.profile.depth = 8 ∨ s.loader.profile.depth = 16) ∧
    (s.loader.phase = .running → s.intake.store.length ≤ s.loader.profile.depth) ∧
    (s.loader.phase ≠ .running → s.intake.store = [])

/-- An operation that leaves the phase, the profile and the number of sets. -/
theorem State.storeFits_of_eq {s t : State} (h : s.storeFits) (hp : t.loader.phase = s.loader.phase)
    (hv : t.loader.profile = s.loader.profile) (hs : t.intake.store.length = s.intake.store.length) : t.storeFits := by
  obtain ⟨h1, h2, h3⟩ := h
  refine ⟨hv ▸ h1, fun h => hv ▸ hs ▸ h2 (hp ▸ h), fun h => ?_⟩
  rw [← List.length_eq_zero_iff, hs, h3 (hp ▸ h)]
  rfl

/-- Every depth that a code gives is one of the table (R203). -/
theorem drawCode_value (n : Nat) : (drawCode n).value = 4 ∨ (drawCode n).value = 8 ∨ (drawCode n).value = 16 := by
  unfold drawCode
  split <;> simp

theorem loadedProfile_depth (o : LoadOutcome) (image : Vector Byte 48) :
    (loadedProfile o image).1.depth = 4 ∨ (loadedProfile o image).1.depth = 8 ∨
      (loadedProfile o image).1.depth = 16 := by
  cases o
  · exact drawCode_value _
  · exact .inr (.inl rfl)
  · exact .inr (.inl rfl)

/-- The loader after the end of loading. -/
theorem State.endLoading_loader (o : LoadOutcome) : (s.endLoading o).loader = { s.loader with
    phase := .running, bus := .idle, profile := (loadedProfile o s.loader.image).1
    clamped := (loadedProfile o s.loader.image).2, outcome := o, attemptsUsed := s.loader.attempts
    defaultFlag := decide (o ≠ .valid) } := by
  unfold State.endLoading
  dsimp only
  split <;> simp [State.mapLoader]

theorem State.endLoading_storeFits (o : LoadOutcome) (h : s.intake.store = []) : (s.endLoading o).storeFits := by
  rw [State.storeFits, State.endLoading_loader]
  exact ⟨loadedProfile_depth o _, fun _ => by simp [h], fun hp => absurd rfl hp⟩

theorem Intake.enter_length (i : Intake) (n : Nat) (e : SetEntry) (hn : 0 < n) (h : i.store.length ≤ n) :
    (i.enter n e).store.length ≤ n := by
  unfold Intake.enter
  split <;> simp only [List.length_append, List.length_singleton, List.length_drop] <;> omega

theorem Intake.afterArrival_store (i : Intake) (n : Nat) : (i.afterArrival n).store = i.store := by
  unfold Intake.afterArrival
  split
  · split <;> rfl
  · rfl
  · rfl

theorem State.arrive_storeFits (w : BitVec 72) (hp : s.loader.phase = .running) (h : s.storeFits) :
    (s.arrive w).storeFits := by
  obtain ⟨h1, h2, -⟩ := h
  refine ⟨by simpa using h1, fun _ => ?_, fun hr => absurd (by simpa using hp) hr⟩
  simp only [State.arrive, State.mapIntake, Intake.afterArrival_store]
  exact Intake.enter_length _ _ _ (by rcases h1 with h | h | h <;> simp [h]) (h2 hp)

theorem State.tick_store (p : Time) : (s.tick p).intake.store.length ≤ s.intake.store.length := by
  unfold State.tick
  dsimp only
  split
  · rfl
  · rfl
  · split
    · rename_i hs
      have hs : s.intake.store = _ :: _ := hs
      simp [State.deliverOldest, State.mapIntake, hs]
    · unfold State.repeatLast
      dsimp only
      split <;> simp [State.mapIntake]

theorem State.tick_storeFits (p : Time) (hp : s.loader.phase = .running) (h : s.storeFits) : (s.tick p).storeFits := by
  obtain ⟨h1, h2, -⟩ := h
  have hl : (s.tick p).loader = s.loader := by simp
  exact ⟨hl ▸ h1, fun _ => hl ▸ (s.tick_store p).trans (h2 hp), fun hr => absurd (hl ▸ hp) hr⟩

theorem State.storeFits.store_nil (h : s.storeFits) (hp : s.loader.phase ≠ .running) : s.intake.store = [] := by
  obtain ⟨-, -, hempty⟩ := h
  exact hempty hp

theorem State.countCycle_storeFits (h : s.storeFits) : s.countCycle.storeFits := by
  have finished : s.finishAbort.storeFits := by
    obtain ⟨l, h1, h2, e⟩ | ⟨hp, o, e⟩ := s.finishAbort_cases <;> rw [e]
    · exact State.storeFits_of_eq h h1 h2 rfl
    · exact s.endLoading_storeFits o (h.store_nil s (by simp [hp]))
  cases hr : s.isReleased
  · rw [s.countCycle_held hr]
    exact h
  · rw [s.countCycle_eq hr]
    exact State.storeFits_of_eq finished rfl rfl rfl

theorem State.tickDue_running (h : s.tickDue.isSome = true) : s.loader.phase = .running := by
  unfold State.tickDue at h
  split at h
  · cases h
  · split at h
    · rename_i hr
      simp only [State.isRunning, Bool.and_eq_true, decide_eq_true_eq] at hr
      exact hr.1
    · cases h

/-- What taking an entry leaves of the loader and the intake, where applying it leaves them. -/
theorem State.inbound_intake (f : InEntry → State → State)
    (h : ∀ e u, (f e u).loader = u.loader ∧ (f e u).intake = u.intake) :
    (s.inbound f).loader = s.loader ∧ (s.inbound f).intake = s.intake := by
  rcases s.inbound_cases f with ⟨e, rest, -, h'⟩ | ⟨t, p, h', -⟩ <;> rw [h']
  · exact h _ _
  · exact ⟨rfl, rfl⟩

theorem State.boundaryEvent_loader (r : Readings) :
    (s.boundaryEvent r).loader.phase = s.loader.phase ∧ (s.boundaryEvent r).loader.profile = s.loader.profile ∧
    (s.boundaryEvent r).intake = s.intake := by
  unfold State.boundaryEvent
  split
  · exact ⟨rfl, rfl, rfl⟩
  · dsimp only
    split <;> simp [State.countBoundary, State.mapLoader, Loader.boundary]

theorem Loader.followHatch_phase (l : Loader) (b : Bool) :
    (l.followHatch b).phase = l.phase ∧ (l.followHatch b).profile = l.profile := by
  unfold Loader.followHatch
  split <;> exact ⟨rfl, rfl⟩

/-- Every command keeps the elastic store as R82 and R203 say. -/
theorem rule_storeFits (i : Instr) (condition : State → Bool) (effect : State → State)
    (hi : conductOf i = .rule condition effect) (hc : condition s = true) (h : s.storeFits) : (effect s).storeFits := by
  have same {t : State} (hp : t.loader.phase = s.loader.phase) (hv : t.loader.profile = s.loader.profile)
      (hs : t.intake.store.length = s.intake.store.length) : t.storeFits := State.storeFits_of_eq h hp hv hs
  have reset {t : State} (hl : t.loader = Loader.reset) (hi : t.intake = Intake.reset) : t.storeFits := by
    rw [State.storeFits, hl, hi]
    exact ⟨.inr (.inl rfl), fun _ => by decide, fun _ => rfl⟩
  have inbound {f : InEntry → State → State} (hf : ∀ e u, (f e u).loader = u.loader ∧ (f e u).intake = u.intake) :
      (s.inbound f).storeFits := by
    obtain ⟨h1, h2⟩ := s.inbound_intake f hf
    exact same (by rw [h1]) (by rw [h1]) (by rw [h2])
  cases i <;> cases hi
  case powerOnReset | pinReset => exact reset rfl rfl
  case resetRelease =>
    have hn : s.loader.phase ≠ .running := fun hr => by simp [State.isReleased, hr] at hc
    obtain ⟨hdepth, -, hempty⟩ := h
    exact ⟨hdepth, fun hr => by simp [State.releaseReset, State.mapLoader] at hr, fun _ => hempty hn⟩
  case profileAttemptEnd result =>
    obtain ⟨n, hp, -, -⟩ := (s.attemptEnded_eq_true result).mp hc
    obtain ⟨l, f, h1, h2, e | ⟨o, e⟩⟩ := s.endAttempt_cases (s.attemptCycles.getD 0) result <;> dsimp only <;> rw [e]
    · exact same h1 h2 rfl
    · exact State.endLoading_storeFits _ o (h.store_nil s (by simp [hp]))
  case setArrival w =>
    simp only [State.setExpected, State.portOpen, State.isRunning, Bool.and_eq_true, decide_eq_true_eq] at hc
    obtain ⟨⟨hr, -⟩, -⟩ := hc
    exact s.arrive_storeFits w hr h
  case tick => exact s.tick_storeFits _ (s.tickDue_running hc) h
  case profileReadAttempt | profileAttemptTimeout => exact same rfl rfl rfl
  case filteredStateChange =>
    exact same (s.loader.followHatch_phase _).1 (s.loader.followHatch_phase _).2 rfl
  case hatchLevelChange => exact same rfl rfl rfl
  case secondBoundaryEvent r =>
    obtain ⟨h1, h2, h3⟩ := s.boundaryEvent_loader r
    exact same h1 h2 (by rw [h3])
  case portFrameOpen => exact same rfl rfl rfl
  case portFrameClose =>
    refine same rfl rfl ?_
    simp only [State.mapIntake, Intake.closeFrame]
    (repeat' split) <;> rfl
  case inboundBeacon =>
    rcases s.inbound_cases State.applyBeacon with ⟨e, rest, -, h'⟩ | ⟨t, p, h', -⟩ <;> dsimp only <;> rw [h']
    · exact same (by simp) (by simp) (by simp [State.applyBeacon])
    · exact same rfl rfl rfl
  case inboundOnset | inboundCoda | inboundHeat | inboundAlert | inboundAlertRaise | inboundQuery | inboundReply =>
    exact inbound (fun _ _ => ⟨by simp, by simp⟩)
  case vote | heardAlert | heardAlertRaise | peakRequest | eventClosingTime | closingExpiry | raiseSent =>
    refine same ?_ ?_ ?_ <;> dsimp only <;> split <;> simp
  all_goals exact same (by simp) (by simp) (by simp)

/-! ### LOADOFF, the halt and the counts of readings (R81, R101, R165 to R167, R173) -/

/-- An operation that leaves the phase and the battery monitor, and that neither starts the detector nor opens a port
frame while LOADOFF is asserted. -/
theorem State.disconnects_of_eq {s t : State} (h : s.disconnects) (hp : t.loader.phase = s.loader.phase)
    (hb : t.battery = s.battery)
    (hd : s.battery.loadoff = true → s.detector.state = .halted → t.detector.state = .halted)
    (hf : s.battery.loadoff = true → s.intake.frame = none → t.intake.frame = none) : t.disconnects := by
  obtain ⟨h1, h2, h3⟩ := h
  rw [State.disconnects, hp, hb]
  exact ⟨h1, fun ho => ⟨hd ho (h2 ho).1, hf ho (h2 ho).2⟩, h3⟩

/-- A reading's tests, in RUNNING: LOADOFF stands, SHED is neither entered nor left, and only the count of the stage in
force moves. -/
theorem State.disconnects_of_tests {s t : State} (h : s.disconnects) (hr : s.loader.phase = .running)
    (hp : t.loader = s.loader) (hd : t.detector = s.detector) (hi : t.intake = s.intake)
    (hl : t.battery.loadoff = s.battery.loadoff)
    (hshed : s.battery.stage = .shed → t.battery.stage = .shed ∧ t.battery.low = s.battery.low)
    (hnot : s.battery.stage ≠ .shed → t.battery.stage ≠ .shed ∧ t.battery.recovery = s.battery.recovery) :
    t.disconnects := by
  obtain ⟨h1, h2, -, h4, h5⟩ := h
  rw [State.disconnects, hp, hd, hi, hl]
  by_cases hs : s.battery.stage = .shed
  · obtain ⟨ht, hlow⟩ := hshed hs
    exact ⟨by simpa [hs, ht] using h1, h2, fun k => absurd hr k, fun k => absurd ht k, fun _ => hlow.trans (h5 hs)⟩
  · obtain ⟨ht, hrec⟩ := hnot hs
    exact ⟨by simpa [hs, ht] using h1, h2, fun k => absurd hr k, fun _ => hrec.trans (h4 hs), fun k => absurd k ht⟩

/-- The stage tests move the count of the stage in force alone, and SHED is neither entered nor left. -/
theorem State.stageTests_counts :
    (s.battery.stage = .shed → s.stageTests.battery.stage = .shed ∧ s.stageTests.battery.low = s.battery.low) ∧
    (s.battery.stage ≠ .shed →
      s.stageTests.battery.stage ≠ .shed ∧ s.stageTests.battery.recovery = s.battery.recovery) := by
  refine ⟨fun h => ?_, fun h => ?_⟩
  · rw [s.stageTests_of_shed h]
    split <;> simp [State.mapBattery, State.setCharge, h]
  · rw [s.stageTests_of_not_shed h]
    split
    · simpa [State.mapBattery] using h
    · rw [State.applySocTest_battery]
      exact ⟨socTest_ne_shed _ _ h, rfl⟩

theorem State.stageTests_loadoff : s.stageTests.battery.loadoff = s.battery.loadoff := by
  rw [State.stageTests_battery]

/-- The battery monitor's reading keeps LOADOFF and the counts as they must be. -/
theorem State.takeReading_disconnects (r : Readings) (h : s.disconnects) (hr : s.loader.phase = .running) :
    (s.takeReading r).disconnects := by
  have read (f : Battery → Battery) (hf : ∀ b : Battery, (f b).loadoff = b.loadoff ∧ (f b).stage = b.stage ∧
      (f b).low = b.low ∧ (f b).recovery = b.recovery) : (s.mapBattery f).disconnects := by
    obtain ⟨h1, h2, h3, h4⟩ := hf s.battery
    refine State.disconnects_of_tests h hr rfl rfl rfl h1 (fun k => ⟨?_, h3⟩) (fun k => ⟨?_, h4⟩) <;>
      simpa [State.mapBattery, h2] using k
  unfold State.takeReading
  dsimp only
  split
  · exact read (fun b => { (b.takeValues (heldReadings r)).count s.profile (heldReadings r) with testsDue := true })
      (fun _ => ⟨rfl, rfl, rfl, rfl⟩)
  · have counted := read (fun b => (b.takeValues (heldReadings r)).count s.profile (heldReadings r))
      (fun _ => ⟨rfl, rfl, rfl, rfl⟩)
    obtain ⟨hshed, hnot⟩ := State.stageTests_counts
      (s.mapBattery (fun b => (b.takeValues (heldReadings r)).count s.profile (heldReadings r)))
    exact State.disconnects_of_tests counted hr (by simp) (by simp) (by simp) (State.stageTests_loadoff _) hshed hnot

theorem State.disconnects.counts_zero (h : s.disconnects) (hp : s.loader.phase ≠ .running) :
    s.battery.full = 0 ∧ s.battery.low = 0 ∧ s.battery.recovery = 0 := by
  obtain ⟨-, -, hcounts, -, -⟩ := h
  exact hcounts hp

theorem State.resync_disconnects (h : s.disconnects) (hd : s.resyncDue = true) : s.resync.disconnects := by
  have hr : s.loader.phase = .running := by
    by_contra hn
    obtain ⟨hfull, -, -⟩ := h.counts_zero s hn
    simp [State.resyncDue, hfull] at hd
  unfold State.resync
  dsimp only
  generalize hu : s.mapBattery _ = u
  have counted : u.disconnects := by
    subst hu
    exact State.disconnects_of_tests h hr rfl rfl rfl rfl (fun k => ⟨k, rfl⟩) (fun k => ⟨k, rfl⟩)
  split
  · obtain ⟨hshed, hnot⟩ := u.stageTests_counts
    exact State.disconnects_of_tests counted (by subst hu; exact hr) (by simp) (by simp) (by simp) u.stageTests_loadoff
      hshed hnot
  · exact counted

theorem State.enterShed_disconnects (h : s.disconnects) (hd : s.shedDue = true) : s.enterShed.disconnects := by
  simp only [State.shedDue, Bool.and_eq_true, decide_eq_true_eq] at hd
  have hr : s.loader.phase = .running := by
    by_contra hn
    obtain ⟨-, hlow, -⟩ := h.counts_zero s hn
    omega
  refine ⟨?_, fun _ => ⟨?_, ?_⟩, fun k => absurd (by simpa using hr) k, fun _ => ?_, fun _ => ?_⟩ <;>
    simp [State.enterShed, State.mapBattery, State.closePort, State.mapIntake, hr]

theorem State.leaveShed_disconnects (h : s.disconnects) (hd : s.shedOver = true) : s.leaveShed.disconnects := by
  simp only [State.shedOver, Bool.and_eq_true, decide_eq_true_eq] at hd
  have hr : s.loader.phase = .running := by
    by_contra hn
    obtain ⟨-, -, hrecovery⟩ := h.counts_zero s hn
    omega
  refine ⟨?_, fun k => ?_, fun k => absurd (by simpa using hr) k, fun _ => ?_, fun k => ?_⟩
  · simp [State.leaveShed, State.changeStage, State.mapBattery, State.setCharge, hr]
  · simp [State.leaveShed, State.changeStage, State.mapBattery, State.setCharge] at k
  · simp [State.leaveShed, State.changeStage, State.mapBattery, State.setCharge]
  · simp [State.leaveShed, State.changeStage, State.mapBattery, State.setCharge] at k

/-- What the clock's operations leave of the other blocks. -/
theorem ClockMoves.frame {R : Clock → Clock → Prop} {s t : State} (h : ClockMoves R s t) :
    t.loader = s.loader ∧ t.battery = s.battery ∧ t.detector = s.detector ∧ t.intake.frame = s.intake.frame := by
  induction h with
  | refl => exact ⟨rfl, rfl, rfl, rfl⟩
  | map f _ _ ih => exact ih
  | step x cause _ ih => exact ih

theorem ClockMoves.disconnects {R : Clock → Clock → Prop} {s t : State} (h : ClockMoves R s t) (k : s.disconnects) :
    t.disconnects := by
  obtain ⟨h1, h2, h3, h4⟩ := h.frame
  exact State.disconnects_of_eq k (by rw [h1]) h2 (fun _ => h3 ▸ id) (fun _ => h4 ▸ id)

/-- Every limit step that is due keeps them. -/
theorem Limit.effect_disconnects (x : Limit) (hx : x.due s = true) (h : s.disconnects) : (x.effect s).disconnects := by
  have starts {t : State} (hn : s.detector.state ≠ .halted) (hl : t.loader.phase = s.loader.phase)
      (hb : t.battery = s.battery) (hf : t.intake = s.intake) : t.disconnects :=
    State.disconnects_of_eq h hl hb (fun _ k => absurd k hn) (fun _ => hf ▸ id)
  cases x
  case outlier => exact s.outlierLimit_moves.disconnects h
  case evaluation => exact s.evaluateReference_moves.disconnects h
  case refReturn => exact s.returnReference_moves.disconnects h
  case missing => exact s.loseReference_moves.disconnects h
  case age => exact s.ageLimit_moves.disconnects h
  case timePart n =>
    exact (State.reexamine_moves (s.mapPeers fun p => p.setRow n { p.row n with time := none })).disconnects h
  case conflict | disturbed | heatPart | triggerPart => exact h
  case hold =>
    refine State.disconnects_of_eq h ?_ ?_ (fun _ k => ?_) (fun _ k => ?_)
    · simp [Limit.effect]
    · simp [Limit.effect]
    · simpa [Limit.effect] using k
    · simpa [Limit.effect] using k
  case resync => exact s.resync_disconnects h hx
  case shedEntry => exact s.enterShed_disconnects h hx
  case shedExit => exact s.leaveShed_disconnects h hx
  case stall =>
    refine State.disconnects_of_eq h ?_ ?_ (fun _ _ => ?_) (fun _ => ?_) <;>
      simp [Limit.effect, State.stall, State.mapIntake]
  case warmup =>
    simp only [Limit.due, State.warmupOver, Bool.and_eq_true, decide_eq_true_eq] at hx
    exact starts (by simp [hx.1]) rfl rfl rfl
  case holdoff =>
    simp only [Limit.due, State.holdoffOver, Bool.and_eq_true, decide_eq_true_eq] at hx
    exact starts (by simp [hx.1]) rfl rfl rfl
  case forced =>
    simp only [Limit.due, State.durationReached, Bool.and_eq_true, decide_eq_true_eq] at hx
    exact starts (by simp [hx.1]) (by simp [Limit.effect]) (by simp [Limit.effect]) (by simp [Limit.effect])

/-- The battery monitor after the end of loading. -/
theorem State.endLoading_battery (o : LoadOutcome) : ∃ q soc, (s.endLoading o).battery = { s.battery with
    Q := q, keepQ := false, stage := stageOfSoc soc, loadoff := false } := by
  have started (u : State) (hu : u.battery = s.battery) : ∃ q soc, u.startBattery.allocate.battery = { s.battery with
      Q := q, keepQ := false, stage := stageOfSoc soc, loadoff := false } := by
    have hb : u.startBattery.allocate.battery = u.startBattery.battery := by simp
    rw [hb, ← hu]
    exact ⟨_, _, rfl⟩
  unfold State.endLoading
  dsimp only
  split <;> exact started _ rfl

theorem stageOfSoc_ne_shed (soc : Nat) : stageOfSoc soc ≠ .shed := by
  unfold stageOfSoc
  (repeat' split) <;> simp

theorem State.endLoading_disconnects (o : LoadOutcome) (hp : s.loader.phase ≠ .running) (h : s.disconnects) :
    (s.endLoading o).disconnects := by
  obtain ⟨q, soc, hb⟩ := s.endLoading_battery o
  rw [State.disconnects, State.endLoading_loader, hb]
  obtain ⟨-, -, hrecovery⟩ := h.counts_zero s hp
  have := stageOfSoc_ne_shed soc
  exact ⟨by simpa using this, fun k => by simp at k, fun k => absurd rfl k, fun _ => hrecovery, fun k => absurd k this⟩

theorem State.countCycle_disconnects (h : s.disconnects) : s.countCycle.disconnects := by
  have finished : s.finishAbort.disconnects := by
    obtain ⟨l, h1, -, e⟩ | ⟨hp, o, e⟩ := s.finishAbort_cases <;> rw [e]
    · exact State.disconnects_of_eq h h1 rfl (fun _ => id) (fun _ => id)
    · exact s.endLoading_disconnects o (by simp [hp]) h
  cases hr : s.isReleased
  · rw [s.countCycle_held hr]
    exact h
  · rw [s.countCycle_eq hr]
    exact State.disconnects_of_eq finished rfl rfl (fun _ => id) (fun _ => id)

/-- In SHED a tick hands the detector nothing (R94). -/
theorem State.tick_shed (p : Time) (hs : s.battery.stage = .shed) : (s.tick p).detector = s.detector := by
  have handed (u : State) (hu : u.battery.stage = .shed) (x : Delivered) (b : Bool) : u.handSet x b = u := by
    simp [State.handSet, State.runCondition, hu]
  unfold State.tick
  dsimp only
  split
  · rfl
  · rfl
  · split
    · unfold State.deliverOldest
      dsimp only
      rw [handed _ (by simpa using hs)]
      rfl
    · unfold State.repeatLast
      dsimp only
      split
      · rfl
      · rw [handed _ (by simpa using hs)]
        rfl

theorem State.tick_portFrame (p : Time) : (s.tick p).intake.frame = s.intake.frame := by
  unfold State.tick
  dsimp only
  split
  · rfl
  · rfl
  · split
    · simp [State.deliverOldest, State.mapIntake]
    · unfold State.repeatLast
      dsimp only
      split <;> simp [State.mapIntake]

theorem State.boundaryEvent_disconnects (r : Readings) (h : s.disconnects) : (s.boundaryEvent r).disconnects := by
  unfold State.boundaryEvent
  split
  · exact h
  · rename_i sec _
    dsimp only
    generalize hu : State.countBoundary _ sec = u
    have counted : u.disconnects := by
      subst hu
      refine State.disconnects_of_eq h ?_ ?_ (fun _ k => ?_) (fun _ k => ?_)
      · simp [State.countBoundary, State.mapLoader, Loader.boundary]
      · simp [State.countBoundary, State.mapLoader]
      · simpa [State.countBoundary, State.mapLoader] using k
      · simpa [State.countBoundary, State.mapLoader] using k
    split
    · rename_i hr
      have read := u.takeReading_disconnects r counted (by simpa [State.isRunning] using hr)
      refine State.disconnects_of_eq read ?_ ?_ (fun _ k => ?_) (fun _ k => ?_)
      · simp
      · simp
      · simpa using k
      · simpa using k
    · exact counted

/-- Every command but a reset and a tick keeps LOADOFF, the halt and the counts of readings. -/
theorem ordinary_disconnects (i : Instr) (hp : i ≠ .powerOnReset) (hr : i ≠ .pinReset) (ht : i ≠ .tick)
    (condition : State → Bool) (effect : State → State) (hi : conductOf i = .rule condition effect)
    (hc : condition s = true) (h : s.disconnects) : (effect s).disconnects := by
  have hstate := (rule_keepsState s i hp hr ht condition effect hi).detector
  have same (hp : (effect s).loader.phase = s.loader.phase) (hb : (effect s).battery = s.battery)
      (hf : s.battery.loadoff = true → s.intake.frame = none → (effect s).intake.frame = none) :
      (effect s).disconnects := State.disconnects_of_eq h hp hb (fun _ k => hstate.trans k) hf
  have frame (hl : (effect s).loader = s.loader) (hb : (effect s).battery = s.battery)
      (hi : (effect s).intake = s.intake) : (effect s).disconnects := same (by rw [hl]) hb (fun _ => hi ▸ id)
  have closed {p : Prop} (h : s.portOpen = true) (ho : s.battery.loadoff = true) : p := by
    simp [State.portOpen, ho] at h
  have inbound {f : InEntry → State → State} (he : effect s = s.inbound f) (hf : ∀ e u, (f e u).loader = u.loader ∧
      (f e u).battery = u.battery ∧ (f e u).intake.frame = u.intake.frame) : (effect s).disconnects := by
    rcases s.inbound_cases f with ⟨e, rest, -, k⟩ | ⟨t, p, k, -⟩ <;> rw [k] at he
    · obtain ⟨h1, h2, h3⟩ := hf e { s with peers := { s.peers with queue := rest } }
      exact same (by rw [he, h1]) (by rw [he, h2]) (fun _ hn => by rw [he, h3]; exact hn)
    · exact same (by rw [he]) (by rw [he]) (fun _ hn => by rw [he]; exact hn)
  cases i <;> cases hi
  case powerOnReset => exact absurd rfl hp
  case pinReset => exact absurd rfl hr
  case tick => exact absurd rfl ht
  case resetRelease =>
    have hn : s.loader.phase ≠ .running := fun hr => by simp [State.isReleased, hr] at hc
    obtain ⟨h1, h2, h3, h4⟩ := h
    exact ⟨by simpa [State.releaseReset, State.mapLoader, hn] using h1, h2, fun _ => h3 hn, h4⟩
  case profileAttemptEnd result =>
    obtain ⟨n, hp, -, -⟩ := (s.attemptEnded_eq_true result).mp hc
    obtain ⟨l, f, h1, -, e | ⟨o, e⟩⟩ := s.endAttempt_cases (s.attemptCycles.getD 0) result <;> dsimp only <;> rw [e]
    · exact State.disconnects_of_eq h h1 rfl (fun _ => id) (fun _ => id)
    · refine State.endLoading_disconnects _ o ?_ (State.disconnects_of_eq h h1 rfl (fun _ => id) (fun _ => id))
      simp [h1, hp]
  case profileReadAttempt | profileAttemptTimeout => exact same rfl rfl (fun _ => id)
  case secondBoundaryEvent r => exact s.boundaryEvent_disconnects r h
  case refrxCharacter => exact (s.refCharacter_moves _ _).disconnects h
  case referenceLoss => exact (State.loseReference_moves (s.mapClock _)).disconnects h
  case peerEvaluation => exact s.evaluatePeers_moves.disconnects h
  case inboundBeacon =>
    refine inbound (f := State.applyBeacon) rfl fun e u => ?_
    obtain ⟨h1, h2, -, h4⟩ := (State.reexamine_moves (u.mapPeers _)).frame
    exact ⟨h1, h2, h4⟩
  case inboundOnset | inboundCoda | inboundHeat | inboundAlert | inboundAlertRaise | inboundQuery | inboundReply =>
    exact inbound rfl fun _ _ => ⟨by simp, by simp, by simp⟩
  case portFrameOpen =>
    simp only [Bool.and_eq_true] at hc
    exact same rfl rfl (fun ho => closed hc.1 ho)
  case setArrival =>
    simp only [State.setExpected, Bool.and_eq_true] at hc
    exact same (by simp) (by simp) (fun ho => closed hc.1 ho)
  case portFrameClose =>
    simp only [Bool.and_eq_true] at hc
    exact same rfl rfl (fun ho => closed hc.1 ho)
  case filteredStateChange => exact same (s.loader.followHatch_phase _).1 rfl (fun _ => id)
  case hatchLevelChange => exact same rfl rfl (fun _ => id)
  case vote | heardAlert | heardAlertRaise | peakRequest | eventClosingTime | closingExpiry | raiseSent =>
    refine frame ?_ ?_ ?_ <;> dsimp only <;> split <;> simp
  all_goals exact frame (by simp) (by simp) (by simp)

/-- Every command keeps LOADOFF, the halt and the counts of readings as R81, R101, R165 to R167 and R173 say. -/
theorem rule_disconnects (i : Instr) (condition : State → Bool) (effect : State → State)
    (hi : conductOf i = .rule condition effect) (hc : condition s = true) (h : s.disconnects) :
    (effect s).disconnects := by
  have reset {t : State} (hp : t.loader.phase = .held) (hd : t.detector = Detector.reset) (hf : t.intake = Intake.reset)
      (hb : ∃ q l k, t.battery = { Battery.reset with Q := q, learned := l, keepQ := k }) : t.disconnects := by
    obtain ⟨q, l, k, hb⟩ := hb
    rw [State.disconnects, hp, hd, hf, hb]
    simp [Battery.reset, Detector.reset, Intake.reset]
  by_cases hp : i = .powerOnReset
  · subst hp
    cases hi
    exact reset rfl rfl rfl ⟨_, _, _, rfl⟩
  by_cases hr : i = .pinReset
  · subst hr
    cases hi
    exact reset rfl rfl rfl ⟨_, _, _, rfl⟩
  by_cases ht : i = .tick
  · subst ht
    cases hi
    have hphase : (s.tick (s.tickDue.getD s.now)).loader.phase = s.loader.phase := by simp
    refine State.disconnects_of_eq h hphase (by simp) (fun ho k => ?_) (fun _ k => (s.tick_portFrame _).trans k)
    have hs : s.battery.stage = .shed := (h.1.mp ho).resolve_left (not_not.mpr (s.tickDue_running hc))
    rw [s.tick_shed _ hs, k]
  · exact ordinary_disconnects s i hp hr ht condition effect hi hc h

/-- Settles O57: the lists by what each operation keeps of them, the elastic store by its arrivals and its deliveries,
and LOADOFF by the entry to SHED, the exit from it and the end of loading. -/
theorem storesStayBounded : Obligations.StoresStayBounded := by
  refine ⟨fun s t h ht => ?_, fun s t h ht => ?_, fun s t h ht => ?_⟩
  · obtain ⟨hlog, hqueue, hhistory, hevents, hstore⟩ := h
    exact ⟨step_keeps_log s t hlog ht, step_keeps_lists s _ (fun _ _ k => k.queue) t hqueue ht,
      step_keeps_lists s _ (fun _ _ k => k.history) t hhistory ht,
      step_keeps_lists s _ (fun _ _ k => k.events) t hevents ht,
      step_keeps State.storeFits (fun _ _ hu => hu)
        (fun x u _ hu => by
          obtain ⟨hphase, hprofile, hlength⟩ := x.effect_store u
          exact State.storeFits_of_eq hu hphase hprofile hlength)
        (fun i condition effect hi u hc hu => rule_storeFits u i condition effect hi hc hu)
        State.countCycle_storeFits s t hstore ht⟩
  · exact step_keeps_lists s _ (fun _ _ k => k.oneOpen) t h ht
  · exact step_keeps State.disconnects (fun _ _ hu => hu) (fun x u hx hu => x.effect_disconnects u hx hu)
      (fun i condition effect hi u hc hu => rule_disconnects u i condition effect hi hc hu)
      State.countCycle_disconnects s t h ht

end Sys2Proof.Machine

/-! ## Cycles, seconds, resets and the release (R1, R2, R25, R188) -/

namespace Sys2Proof.Machine

variable (s : State)

/-! ### The cycle of an idle part (R1, R2, R26, R189, R194) -/

/-- A failed attempt that ends leaves what a cycle counts from. -/
theorem State.finishAbort_kept :
    s.finishAbort.clock.time = s.clock.time ∧ s.finishAbort.clock.hold = s.clock.hold ∧
    s.finishAbort.clock.d = s.clock.d ∧ s.finishAbort.clock.F = s.clock.F ∧ s.finishAbort.clock.P = s.clock.P ∧
    s.finishAbort.trunk.acc = s.trunk.acc ∧ s.finishAbort.loader.fast = s.loader.fast := by
  have trunk (o : LoadOutcome) : (s.endLoading o).trunk.acc = s.trunk.acc := by
    unfold State.endLoading
    dsimp only
    split <;> simp [State.mapLoader]
  unfold State.finishAbort
  split
  · unfold State.nextAttempt
    split
    · rw [State.endLoading_clock, State.endLoading_loader]
      exact ⟨rfl, rfl, rfl, rfl, rfl, trunk _, rfl⟩
    · exact ⟨rfl, rfl, rfl, rfl, rfl, rfl, rfl⟩
  · exact ⟨rfl, rfl, rfl, rfl, rfl, rfl, rfl⟩

theorem State.finishAbort_of_bus (h : s.loader.bus ≠ .aborting 0) : s.finishAbort = s := by
  simp [State.finishAbort, h]

theorem sampleStep_eq (fast : Bool) : sampleStep fast = 16 * (if fast then 115200 else 57600) := by
  cases fast <;> rfl

/-- The accumulator after a cycle (R26). -/
theorem Trunk.cycle_acc (t : Trunk) (fast : Bool) : (t.cycle fast).acc =
    if 10000000 ≤ t.acc + sampleStep fast then t.acc + sampleStep fast - 10000000 else t.acc + sampleStep fast := by
  unfold Trunk.cycle
  dsimp only
  split <;> rfl

theorem Receiver.inside_iff (r : Receiver) : r.inside = true ↔ ∃ n c, r = .inChar n c := by
  cases r <;> simp [Receiver.inside]

/-- A new sample, with the transmitter and the receiver in their own terms. -/
theorem Trunk.sample_eq (t : Trunk) (inside : Bool) (h : inside = true ↔ ∃ n c, t.receiver = .inChar n c) :
    t.sample = { t with
      releasing := false, tail := t.tail - 1, receiver := t.receiver.sample
      idleTimer := if inside = false ∧ t.dominant = false ∧ t.tail ≤ 1 then min (t.idleTimer + 1) 176 else t.idleTimer
      run := if inside = false ∧ t.dominant = true then min (t.run + 1) 352 else t.run
      tx := if t.dominant then t.tx.sample.edge else t.tx.sample } := by
  have hi : t.receiver.inside = inside := by
    rw [Bool.eq_iff_iff, Receiver.inside_iff, h]
  simp only [Trunk.sample, hi]
  simp [and_assoc]

/-- A dominant sample of a waiting hand-over is one that the trunk has shown. -/
theorem Transmitter.sample_handed (f : TxFrame) (seen boundary dominant : Bool) :
    (if dominant then (Transmitter.handed f seen boundary).sample.edge
      else (Transmitter.handed f seen boundary).sample) = .handed f (seen || dominant) true := by
  cases dominant <;> simp [Transmitter.sample, Transmitter.edge]

/-- Settles O2: an idle step is a cycle, and each block's count is its own equation. -/
theorem idleStepCountsOneCycle : Obligations.IdleStepCountsOneCycle := by
  intro s hq hd hr
  obtain ⟨htime, hhold, hadj, hF, hP, hacc, hfast⟩ := s.finishAbort_kept
  have hcycle := s.countCycle_eq hr
  have hclock : s.countCycle.clock = s.finishAbort.clock.count := by rw [hcycle]
  refine ⟨s.countCycle, by simp [step, hq, hd], fun hb => ?_, fun h => ?_, fun h he => ?_, fun h hs hp => ?_,
    fun h hs hb hk => ?_, fun ha => ?_, fun hb inside acc hin hsum => ⟨fun hlt => ?_, fun hge => ?_, ?_⟩⟩
  · rw [hcycle, s.finishAbort_of_bus hb]
  · rw [hclock, Clock.count_of_hold _ (hhold.trans h)]
    exact ⟨htime, rfl⟩
  · rw [hclock, Clock.count_of_end _ (hhold.trans h) (by rw [htime, he]), htime, hF, hP]
    exact ⟨rfl, rfl⟩
  · by_cases hk : (s.clock.time.sub + 1) % 10000 = 0 ∧ ((s.clock.time.sub + 1) / 10000 : Nat) ≤ s.clock.d
    · rw [hclock, Clock.count_of_held _ (hhold.trans h) (by rwa [htime]) (by rw [htime]; exact hk.1)
        (by rw [htime, hadj]; exact hk.2), htime]
      exact ⟨rfl, iff_of_true rfl hk⟩
    · rw [hclock, Clock.count_of_plain _ (hhold.trans h) (by rwa [htime]) (by rw [htime, hadj]; omega), htime]
      exact ⟨rfl, iff_of_false (by simp [hhold, h]) hk⟩
  · rw [hclock, Clock.count_of_skipped _ (hhold.trans h) (by rwa [htime]) (by rwa [htime])
      (by rw [htime, hadj]; exact hk), htime]
  · rw [hcycle, Trunk.cycle_acc, hacc, hfast, sampleStep_eq]
  · rw [hcycle, s.finishAbort_of_bus hb]
    have : ¬ 10000000 ≤ s.trunk.acc + sampleStep s.loader.fast := by rw [sampleStep_eq]; omega
    simp only [Trunk.cycle, secondCycles, if_neg this]
    rw [hsum, sampleStep_eq]
  · rw [hcycle, s.finishAbort_of_bus hb]
    have : 10000000 ≤ s.trunk.acc + sampleStep s.loader.fast := by rw [sampleStep_eq]; omega
    simp only [Trunk.cycle, secondCycles, if_pos this, s.trunk.sample_eq inside hin]
    rw [hsum, sampleStep_eq]
    congr 1
    cases s.trunk.tx with
    | idle => cases s.trunk.dominant <;> rfl
    | handed f seen boundary => exact Transmitter.sample_handed f seen boundary _
    | sending f x => cases s.trunk.dominant <;> rfl
  · rw [hcycle, s.finishAbort_of_bus hb]
    simp only [Loader.cycle]
    cases s.loader.bus <;> rfl

/-! ### The length of a second (R2) -/

/-- The cycles from the beginning of a second to a clock's present value: the value itself, the boundaries held or
skipped so far, and the extra cycle still to come. -/
def Clock.elapsed (c : Clock) : Int :=
  c.time.sub + max (-((c.time.sub / 10000 : Nat) : Int)) (min (c.time.sub / 10000 : Nat) c.d) - if c.hold then 1 else 0

/-- A clock inside its second: an extra cycle is still to come only at a boundary that the adjustment holds. -/
structure Clock.inSecond (c : Clock) : Prop where
  sub : c.time.sub < 10000000
  low : -999 ≤ c.d
  high : c.d ≤ 999
  held : c.hold = true → c.time.sub % 10000 = 0 ∧ 1 ≤ c.time.sub / 10000 ∧ ((c.time.sub / 10000 : Nat) : Int) ≤ c.d

/-- A cycle brings the clock one cycle further in its second, or, after the second's last cycle, to the next one. -/
theorem Clock.count_inSecond (c : Clock) (h : c.inSecond) :
    (c.elapsed + 1 = 10000000 + c.d ∧ c.count.time = ⟨c.time.sec + 1, 0⟩) ∨
    (c.elapsed + 1 < 10000000 + c.d ∧ c.count.inSecond ∧ c.count.elapsed = c.elapsed + 1 ∧
      c.count.d = c.d ∧ c.count.time.sec = c.time.sec) := by
  obtain ⟨hsub, hlow, hhigh, hheld⟩ := h
  cases hh : c.hold
  case true =>
    obtain ⟨hb, h1, hk⟩ := hheld hh
    refine .inr ⟨?_, ?_⟩
    · simp only [Clock.elapsed, hh, if_true]
      omega
    · rw [c.count_of_hold hh]
      refine ⟨⟨hsub, hlow, hhigh, by simp⟩, ?_, rfl, rfl⟩
      simp [Clock.elapsed, hh]
  by_cases he : 10000000 ≤ c.time.sub + 1
  · refine .inl ⟨?_, by rw [c.count_of_end hh he]⟩
    simp only [Clock.elapsed, hh, Bool.false_eq_true, if_false]
    omega
  have hs : c.time.sub + 1 < 10000000 := by omega
  refine .inr ⟨?_, ?_⟩
  · simp only [Clock.elapsed, hh, Bool.false_eq_true, if_false]
    omega
  by_cases h1 : (c.time.sub + 1) % 10000 = 0 ∧ ((c.time.sub + 1) / 10000 : Nat) ≤ c.d
  · obtain ⟨hb, hk⟩ := h1
    rw [c.count_of_held hh hs hb hk]
    refine ⟨⟨hs, hlow, hhigh, fun _ => ⟨hb, ?_, hk⟩⟩, ?_, rfl, rfl⟩
    · dsimp only
      omega
    · simp only [Clock.elapsed, hh, Bool.false_eq_true, if_false, if_true]
      omega
  by_cases h2 : (c.time.sub + 1) % 10000 = 0 ∧ c.d ≤ -((c.time.sub + 1) / 10000 : Nat)
  · obtain ⟨hb, hk⟩ := h2
    rw [c.count_of_skipped hh hs hb hk]
    refine ⟨⟨?_, hlow, hhigh, by simp [hh]⟩, ?_, rfl, rfl⟩
    · dsimp only
      omega
    · simp only [Clock.elapsed, hh, Bool.false_eq_true, if_false]
      omega
  · rw [c.count_of_plain hh hs (by omega)]
    refine ⟨⟨hs, hlow, hhigh, by simp [hh]⟩, ?_, rfl, rfl⟩
    simp only [Clock.elapsed, hh, Bool.false_eq_true, if_false]
    omega

/-- Fewer cycles than the second has leave the clock in it, that many cycles from its beginning. -/
theorem Clock.count_iterate (c : Clock) (h : c.inSecond) (h0 : c.elapsed = 0) (n : Nat)
    (hn : (n : Int) < 10000000 + c.d) :
    (Clock.count^[n] c).inSecond ∧ (Clock.count^[n] c).elapsed = n ∧ (Clock.count^[n] c).d = c.d ∧
      (Clock.count^[n] c).time.sec = c.time.sec := by
  induction n with
  | zero => exact ⟨h, by simpa using h0, rfl, rfl⟩
  | succ n ih =>
    obtain ⟨hin, hel, hd, hsec⟩ := ih (by omega)
    rw [Function.iterate_succ_apply']
    rcases Clock.count_inSecond _ hin with ⟨he, -⟩ | ⟨-, hin', hel', hd', hsec'⟩
    · omega
    · exact ⟨hin', by omega, hd'.trans hd, hsec'.trans hsec⟩

/-- Settles O3, by induction on the cycles of the second. -/
theorem secondSpansItsAdjustment : Obligations.SecondSpansItsAdjustment := by
  intro c hsub hhold hlow hhigh
  have hin : c.inSecond := ⟨by omega, hlow, hhigh, by simp [hhold]⟩
  have h0 : c.elapsed = 0 := by
    simp only [Clock.elapsed, hsub, hhold, Bool.false_eq_true, if_false]
    omega
  have within (n : Nat) (hn : (n : Int) < 10000000 + c.d) : (Clock.count^[n] c).time.sec = c.time.sec := by
    obtain ⟨-, -, -, hsec⟩ := c.count_iterate hin h0 n hn
    exact hsec
  refine ⟨?_, within⟩
  obtain ⟨n, hn⟩ : ∃ n, (10000000 + c.d).toNat = n + 1 := ⟨(9999999 + c.d).toNat, by omega⟩
  obtain ⟨hin', hel, hd, hsec⟩ := c.count_iterate hin h0 n (by omega)
  rw [hn, Function.iterate_succ_apply', ← hsec]
  rcases Clock.count_inSecond _ hin' with ⟨-, ht⟩ | ⟨hlt, -⟩
  · exact ht
  · omega

/-! ### Resets and the release (R25, R188) -/

/-- What no limit step changes: the pins, the counter of free values and the queue. -/
structure State.KeepsOutside (s t : State) : Prop where
  pins : t.pins = s.pins
  free : t.free = s.free
  pending : t.pending = s.pending

theorem Limit.effect_keepsOutside (x : Limit) : s.KeepsOutside (x.effect s) := by
  cases x <;> constructor <;>
    simp [Limit.effect, State.outlierLimit, State.ageLimit, State.clearConflict, State.clearDisturbed,
      State.dropTimePart, State.dropHeatPart, State.dropTriggerPart, State.stall, State.endWarmup, State.endHoldoff]

theorem State.settle_keepsOutside : s.KeepsOutside s.settle :=
  settleFor_keeps s.KeepsOutside (fun x t _ h => by
    obtain ⟨hpins, hfree, hpending⟩ := x.effect_keepsOutside t
    exact ⟨hpins.trans h.pins, hfree.trans h.free, hpending.trans h.pending⟩) _ s ⟨rfl, rfl, rfl⟩

/-- Settles O4: the limit steps that come before a reset leave what the reset keeps. -/
theorem resetsGiveTheirValues : Obligations.ResetsGiveTheirValues := by
  refine ⟨fun s => ?_, fun s h => ?_⟩
  · obtain ⟨hpins, hfree, hpending⟩ := s.settle_keepsOutside
    rw [← hpins, ← hfree, ← hpending]
    rfl
  · rw [exec_pinReset, carryOut_of s _ _ h rfl]
    rfl

/-- Settles O6. -/
theorem releaseSamplesTheStraps : Obligations.ReleaseSamplesTheStraps := by
  intro stn fast hatch s h hp
  rw [exec_resetRelease, carryOut_of s _ _ h (by simp [State.isReleased, hp])]
  rfl

/-- Settles O5: the reset values, read from the blocks' own. -/
theorem resetValues : Obligations.ResetValues := by
  refine ⟨rfl, rfl, rfl, rfl, rfl, rfl, rfl, rfl, rfl, rfl, rfl, rfl, rfl, fun n => ?_, fun k => ?_, ?_⟩
  · simp [State.reset, Peers.reset, Peers.row, Row.absent]
  · cases k <;> rfl
  · decide

end Sys2Proof.Machine

/-! ## Edges and time records (R5 to R7) -/

namespace Sys2Proof.Machine

variable (s : State)

/-! ### Edges -/

/-- Settles O10: the effects of an edge are those of `Clock.takeEdge`, on either side of its one test. -/
theorem edgesAwaitTheirRecord : Obligations.EdgesAwaitTheirRecord := by
  refine ⟨fun s e x h hp he hx => ?_, fun s x h hp ha hd => ?_⟩
  · have hedge : s.clock.newEdge = x := by subst hx he; rfl
    rw [exec_ppsEdge, carryOut_of s _ _ h (by simp [State.isRunning, hp])]
    refine ⟨fun hn => ?_, fun hs => ?_⟩
    · simp [State.mapClock, Clock.takeEdge, hedge, hn]
    · obtain ⟨y, hy⟩ := Option.ne_none_iff_exists'.mp hs
      simp only [State.mapClock, Clock.takeEdge, hedge, hy, Option.isSome_some, if_true]
      cases hi : s.clock.interval <;> simp [Clock.edgeMissing, hi, Interval.discard, bump16]
  · rw [exec_edgeMissing, carryOut_of s _ _ h (by simp [State.isRunning, hp, State.edgeOverdue, ha, State.now, hd])]
    cases hi : s.clock.interval <;> simp [State.mapClock, Clock.edgeMissing, hi, Interval.discard, bump16]

/-! ### The gap before a character -/

theorem State.recordGap_of_empty (n : Nat) (h : s.clock.refBytes = []) : s.recordGap n = false := by
  simp [State.recordGap, h]

theorem State.recordGap_of_last {t : Time} (n : Nat) (h : s.clock.refBytes ≠ []) (ht : s.clock.refLast = some t) :
    s.recordGap n = decide ((n : Int) < s.clock.time.diff t) := by
  simp [State.recordGap, h, ht, State.now]

/-! ### A character taken -/

/-- The part with the moment of a REFRX character's stop bit kept. -/
def State.stamped : State := { s with clock := { s.clock with refLast := some s.clock.time } }

theorem State.refCharacter_of_noGap (b : Byte) (stop : Bool) (h : s.recordGap (50000 + refCharCycles) = false) :
    s.refCharacter b stop = s.stamped.recordCharacter b stop := by
  simp [State.refCharacter, h, State.stamped, State.mapClock]

theorem State.refCharacter_of_gap (b : Byte) (stop : Bool) (h : s.recordGap (50000 + refCharCycles) = true) :
    s.refCharacter b stop = (s.mapClock Clock.badRecord).stamped.recordCharacter b stop := by
  simp [State.refCharacter, h, State.stamped, State.mapClock]

/-- Outside a record only the first byte's value, with a high stop bit, is kept. -/
theorem State.recordCharacter_outside (b : Byte) (stop : Bool) (h : s.clock.refBytes = []) :
    s.recordCharacter b stop =
      { s with clock := { s.clock with refBytes := if stop = true ∧ b = 0x5A then [b] else [] } } := by
  by_cases hb : stop = true ∧ b = 0x5A
  · simp [State.recordCharacter, h, hb, State.mapClock]
  · have : (stop && b == 0x5A) = false := by simpa using hb
    rw [if_neg hb, ← h, State.recordCharacter, if_pos (by simp [h]), this]
    rfl

theorem State.recordCharacter_low (b : Byte) (h : s.clock.refBytes ≠ []) :
    s.recordCharacter b false = s.mapClock Clock.badRecord := by
  simp [State.recordCharacter, h]

theorem State.recordCharacter_next (b : Byte) (h : s.clock.refBytes ≠ []) (hl : s.clock.refBytes.length < 6) :
    s.recordCharacter b true = s.mapClock (fun c => { c with refBytes := c.refBytes ++ [b] }) := by
  simp [State.recordCharacter, h, hl]

theorem State.recordCharacter_last (b : Byte) (hl : s.clock.refBytes.length = 6) :
    s.recordCharacter b true = s.endRecord (s.clock.refBytes ++ [b]) := by
  have h : s.clock.refBytes ≠ [] := by
    intro h
    simp [h] at hl
  simp [State.recordCharacter, h, hl]

/-! ### A complete record -/

theorem recordCheck_append (r : List Byte) (b : Byte) (hl : r.length = 6) :
    recordCheck (r ++ [b]) = r.foldl (fun x y => x ^^^ y) 0 := by
  rw [recordCheck, List.take_append_of_le_length (by omega), List.take_of_length_le (by omega)]

/-- A record whose check byte is right is paired. -/
theorem State.endRecord_right (r : List Byte) (b : Byte) (hl : r.length = 6)
    (hb : b = r.foldl (fun x y => x ^^^ y) 0) :
    s.endRecord (r ++ [b]) = ({ s with clock := { s.clock with refBytes := [] } } : State).pairRecord
      (BitVec.ofNat 32 (field r 1 4)) ((r.getD 5 0).getLsbD 0) := by
  have hf : field (r ++ [b]) 1 4 = field r 1 4 := by
    simp only [field, List.drop_append_of_le_length (show 1 ≤ r.length by omega)]
    rw [List.take_append_of_le_length (by rw [List.length_drop]; omega)]
  have h5 : (r ++ [b]).getD 5 0 = r.getD 5 0 := List.getD_append _ _ _ _ (by omega)
  have h6 : (r ++ [b]).getD 6 0 = b := by simp [hl]
  rw [State.endRecord, recordCheck_append r b hl, h6, if_pos hb, h5, hf]
  rfl

theorem State.endRecord_wrong (r : List Byte) (b : Byte) (hl : r.length = 6)
    (hb : b ≠ r.foldl (fun x y => x ^^^ y) 0) : s.endRecord (r ++ [b]) = s.mapClock Clock.badRecord := by
  have h6 : (r ++ [b]).getD 6 0 = b := by simp [hl]
  rw [State.endRecord, recordCheck_append r b hl, h6, if_neg hb]

/-- The part with a complete record taken from the assembly. -/
def State.recordTaken : State := { s with clock := { s.clock with refBytes := [], refLast := some s.clock.time } }

theorem State.recordCharacter_right (b : Byte) (hl : s.clock.refBytes.length = 6)
    (hb : b = s.clock.refBytes.foldl (fun x y => x ^^^ y) 0) :
    s.stamped.recordCharacter b true = s.recordTaken.pairRecord (BitVec.ofNat 32 (field s.clock.refBytes 1 4))
      ((s.clock.refBytes.getD 5 0).getLsbD 0) :=
  (s.stamped.recordCharacter_last b hl).trans (s.stamped.endRecord_right _ b hl hb)

/-- A record that finds no edge awaiting it within 900 ms changes nothing. -/
theorem State.pairRecord_of_late (n : BitVec 32) (valid : Bool)
    (h : ∀ x, s.clock.awaiting = some x → 9000000 < s.clock.time.diff x.captured) : s.pairRecord n valid = s := by
  unfold State.pairRecord
  split
  · rfl
  · rename_i x hx
    rw [if_neg (by simpa [State.now] using h x hx)]

theorem exec_refrxCharacter_running (b : Byte) (stop : Bool) (h : s.isSettled = true) (hp : s.loader.phase = .running) :
    exec (.refrxCharacter b stop) s = .next (s.refCharacter b stop) := by
  rw [exec_refrxCharacter, carryOut_of s _ _ h (by simp [State.isRunning, hp])]

/-- Settles O11: by where the record stands, and then by the character. -/
theorem timeRecordIsAssembled : Obligations.TimeRecordIsAssembled := by
  intro s b h hp
  have outside (b : Byte) (stop : Bool) (hr : s.clock.refBytes = []) : exec (.refrxCharacter b stop) s =
      .next { s with clock := { s.clock with
        refBytes := if stop = true ∧ b = 0x5A then [b] else [], refLast := some s.clock.time } } := by
    rw [exec_refrxCharacter_running s b stop h hp, s.refCharacter_of_noGap b stop (s.recordGap_of_empty _ hr),
      s.stamped.recordCharacter_outside b stop hr]
    rfl
  refine ⟨fun hr => ?_, fun hr hb => ?_, fun hr => ?_, fun t hr ht hd => ?_, fun t stop hr ht hd => ?_,
    fun t hr ht hd => ?_⟩
  · simpa using outside 0x5A true hr
  · rw [outside b true hr, if_neg (fun h => hb h.2), ← hr]
  · rw [outside b false hr, if_neg (by simp), ← hr]
  · have hgap : s.recordGap (50000 + refCharCycles) = false := by
      rw [s.recordGap_of_last _ hr ht]
      exact decide_eq_false (not_lt.mpr hd)
    rw [exec_refrxCharacter_running s b true h hp, exec_refrxCharacter_running s b false h hp,
      s.refCharacter_of_noGap b true hgap, s.refCharacter_of_noGap b false hgap,
      s.stamped.recordCharacter_low b hr]
    refine ⟨fun hl => ?_, rfl, fun hl hb => ?_, fun hl hb hx => ?_⟩
    · rw [s.stamped.recordCharacter_next b hr hl]
      rfl
    · exact congrArg _ ((s.stamped.recordCharacter_last b hl).trans (s.stamped.endRecord_wrong _ b hl hb))
    · rw [s.recordCharacter_right b hl hb, s.recordTaken.pairRecord_of_late _ _ hx]
      rfl
  · have hgap : s.recordGap (50000 + refCharCycles) = true := by
      rw [s.recordGap_of_last _ hr ht]
      exact decide_eq_true hd
    rw [exec_refrxCharacter_running s b stop h hp, s.refCharacter_of_gap b stop hgap,
      (s.mapClock Clock.badRecord).stamped.recordCharacter_outside b stop rfl]
    rfl
  · rw [exec_refrxGapTimeout, carryOut_of s _ _ h (by simp [State.isRunning, hp, s.recordGap_of_last _ hr ht, hd])]
    rfl

/-- Settles O60: the reset state's own values. -/
theorem invariantsHoldAtReset : Obligations.InvariantsHoldAtReset := by
  refine ⟨?_, ?_, ?_, rfl, ?_, ?_⟩
  · refine ⟨?_, ?_, ?_, ?_, ?_⟩ <;> decide
  · refine ⟨?_, ?_, ?_, ?_, ?_, ?_, ?_⟩ <;> decide
  · intro e he
    cases he
  · refine ⟨?_, ?_, ?_, ?_, ?_⟩ <;> decide
  · refine ⟨?_, ?_, ?_⟩ <;> decide

end Sys2Proof.Machine

/-! ## A step of station time (R22, R23) -/

namespace Sys2Proof.Machine

variable (s : State)

/-! ### What each block's own move is -/

/-- The time after a step, exactly, modulo 2^32 seconds (R22). -/
theorem Time.add_cycles (t : Time) (x : Int) :
    ((t.add x).cycles : Int) = ((t.cycles : Int) + x) % (4294967296 * 10000000) := by
  have hlow := Int.emod_nonneg ((t.cycles : Int) + x) (show (4294967296 * 10000000 : Int) ≠ 0 by decide)
  have hhigh := Int.emod_lt_of_pos ((t.cycles : Int) + x) (show (0 : Int) < 4294967296 * 10000000 by decide)
  generalize hy : ((t.cycles : Int) + x) % (4294967296 * 10000000) = y at hlow hhigh
  have hadd : t.add x = Time.ofCycles y.toNat := by
    rw [← hy]
    rfl
  simp only [hadd, Time.cycles, Time.ofCycles, secondCycles, BitVec.toNat_ofNat]
  omega

@[simp] theorem State.applyStep_clock (x : Int) (cause : StepCause) :
    (s.applyStep x cause).clock = s.clock.step x cause := rfl

@[simp] theorem State.applyStep_peers (x : Int) (cause : StepCause) :
    (s.applyStep x cause).peers = s.peers.move x := rfl

/-- The clock after a step, with every time it holds (R22, R23). -/
theorem Clock.step_eq (c : Clock) (x : Int) (cause : StepCause) : c.step x cause = { c with
    time := c.time.add x, advanced := 0, epoch := c.epoch + 1
    d := adjustment (c.time.add x).sec c.F c.P
    awaiting := c.awaiting.map (fun e => { e with captured := e.captured.add x })
    taken := c.taken.map (fun t => { t with edge := { t.edge with captured := t.edge.captured.add x } })
    lastEdge := c.lastEdge.map (fun t => t.add x)
    lossStart := c.lossStart.map (fun t => t.add x)
    refLast := c.refLast.map (fun t => t.add x)
    log := ((⟨c.time.add x, max (-2147483647) (min x 2147483647), cause⟩ : StepEntry) :: c.log).take 4
    counters := { c.counters with
      steps := if cause = .seconds then c.counters.steps else min (c.counters.steps + 1) 65535 } } := by
  by_cases h : cause = .seconds <;> simp [Clock.step, Clock.refix, clampInt, bump16, h]

@[simp] theorem Slots.get_map (x : Slots) (f : Slot → Slot) (k : TxKind) : (x.map f).get k = f (x.get k) := by
  cases k <;> rfl

@[simp] theorem Peers.row_move (p : Peers) (x : Int) (n : Station) : (p.move x).row n = (p.row n).markStale := by
  simp [Peers.move, Peers.row]

/-- The declared-at time alone of an open record moves (R131). -/
theorem Coincidence.move_eq (x : Int) (c : Coincidence) : c.move x = { c with
    events := c.events.map (fun e => { e with
      declaredAt := if e.isOpen then e.declaredAt.add x else e.declaredAt }) } := by
  rw [Coincidence.move]
  congr 2
  funext e
  by_cases h : e.isOpen = true
  · rw [if_pos h, if_pos h]
  · rw [if_neg h, if_neg h]

theorem Alerts.move_of_off (x : Int) (a : Alerts) (h : a.annState = .off) : a.move x =
    { a with deference := a.deference.map (fun t => { t with expiry := t.expiry.add x }) } := by
  simp [Alerts.move, Alerts.restart, h]

theorem Alerts.move_of_ne_off (x : Int) (a : Alerts) (h : a.annState ≠ .off) : a.move x = { a with
    deference := a.deference.map (fun t => { t with expiry := t.expiry.add x })
    annState := .waiting, slot := 0, level := 0, slotPoint := none, ann := false } := by
  cases ha : a.annState <;> simp_all [Alerts.move, Alerts.restart]

/-! ### The heater outputs (R184) -/

theorem State.heatersAllowed_iff : s.heatersAllowed = true ↔ s.loader.phase = .running ∧
    (s.battery.stage = .normal ∨ s.battery.stage = .conserve) ∧ ∀ x, s.heater.hold ≠ .holding x := by
  cases h : s.heater.hold <;> simp [State.heatersAllowed, State.isRunning, h]

/-- The condition of an output in the terms of the statements. -/
theorem State.drives_iff (offset steps : Nat) :
    (s.heatersAllowed && inWindow s.now.sub offset steps) = true ↔ s.drives offset steps := by
  simp [s.heatersAllowed_iff, inWindow, State.drives, State.now, secondCycles, and_assoc]

/-! ### The whole step -/

/-- Settles O17: block by block, each by its own move. -/
theorem stepMovesHeldTimes : Obligations.StepMovesHeldTimes := by
  intro s x cause
  refine ⟨_, rfl, ⟨s.clock.time.add_cycles x, s.clock.time.add_sub_lt x⟩, s.clock.step_eq x cause, ?_, fun k => ?_, rfl,
    rfl, fun n => ?_, rfl, rfl, s.co.move_eq x, s.alerts.move_of_ne_off x, s.alerts.move_of_off x, ?_, ?_, ?_, rfl⟩
  · change s.trunk.move x = _
    rw [Trunk.move]
    congr 1
    cases s.trunk.tx <;> rfl
  · refine (Slots.get_map _ _ k).trans ?_
    cases s.sched.slots.get k <;> rfl
  · exact s.peers.row_move x n
  · cases h : s.heater.hold <;> simp [State.applyStep, State.followHeaters, Heater.move, Hold.move, h]
  · exact State.drives_iff (s.applyStep x cause) _ _
  · rw [show (625000 * s.loader.station.val + 5000000) % 10000000 = heatOffset1 s.loader.station by
      rw [heatOffset1, secondCycles, Nat.add_comm]]
    exact State.drives_iff (s.applyStep x cause) _ _

end Sys2Proof.Machine

/-! ## Taken edges, evaluations and the reference's return (R7 to R17) -/

namespace Sys2Proof.Machine

variable (s : State)

/-! ### A record that finds its edge -/

theorem State.pairRecord_of_edge {x : Edge} (n : BitVec 32) (valid : Bool) (hx : s.clock.awaiting = some x)
    (hd : s.clock.time.diff x.captured ≤ 9000000) : s.pairRecord n valid =
      if valid then (s.mapClock (fun c => { c with awaiting := none, missing := 0 })).takenEdge ⟨x, n⟩
      else (s.mapClock (fun c => { c with awaiting := none })).loseReference := by
  simp [State.pairRecord, hx, State.now, hd]

/-- A complete record whose check byte is right is paired. -/
theorem exec_refrxCharacter_right (b : Byte) (h : s.isSettled = true) (hp : s.loader.phase = .running)
    (hl : s.clock.refBytes.length = 6) (ht : ∃ t, s.clock.refLast = some t ∧ s.clock.time.diff t ≤ 50000)
    (hb : b = s.clock.refBytes.foldl (fun x y => x ^^^ y) 0) :
    exec (.refrxCharacter b true) s = .next (s.recordTaken.pairRecord
      (BitVec.ofNat 32 (field s.clock.refBytes 1 4)) ((s.clock.refBytes.getD 5 0).getLsbD 0)) := by
  obtain ⟨t, ht, hd⟩ := ht
  have hr : s.clock.refBytes ≠ [] := by
    intro hr
    simp [hr] at hl
  have hgap : s.recordGap (50000 + refCharCycles) = false := by
    rw [s.recordGap_of_last _ hr ht]
    exact decide_eq_false (not_lt.mpr (hd.trans (by decide)))
  rw [exec_refrxCharacter_running s b true h hp, s.refCharacter_of_noGap b true hgap, s.recordCharacter_right b hl hb]

/-- The part with the awaiting edge taken. -/
def State.edgeTaken : State :=
  { s with clock := { s.clock with refBytes := [], refLast := some s.clock.time, awaiting := none, missing := 0 } }

theorem exec_refrxCharacter_answers {r : List Byte} {b : Byte} {x : Edge} {seconds : BitVec 32}
    (h : s.answersEdge r b x seconds) :
    exec (.refrxCharacter b true) s = .next (s.edgeTaken.takenEdge ⟨x, seconds⟩) := by
  obtain ⟨hs, hp, rfl, hl, ht, hb, hv, rfl, hx, hd⟩ := h
  rw [exec_refrxCharacter_right s b hs hp hl ht hb, s.recordTaken.pairRecord_of_edge _ _ hx hd, if_pos hv]
  rfl

/-- The part with the awaiting edge given up. -/
def State.edgeRefused : State :=
  { s with clock := { s.clock with refBytes := [], refLast := some s.clock.time, awaiting := none } }

theorem exec_refrxCharacter_refuses {r : List Byte} {b : Byte} {x : Edge} (h : s.refusesEdge r b x) :
    exec (.refrxCharacter b true) s = .next s.edgeRefused.loseReference := by
  obtain ⟨hs, hp, rfl, hl, ht, hb, hv, hx, hd⟩ := h
  rw [exec_refrxCharacter_right s b hs hp hl ht hb, s.recordTaken.pairRecord_of_edge _ _ hx hd,
    if_neg (by rw [hv]; decide)]
  rfl

/-! ### Acquisition (R13) -/

/-- The part that the acquisition's interval begins in. -/
def State.acquisitionStep (k : Taken) : State :=
  if acquisitionSize k = 0 then s else s.applyStep (acquisitionSize k) .acquire

theorem State.acquisition_eq (k : Taken) : s.acquisition k = { s.acquisitionStep k with
    clock := { (s.acquisitionStep k).clock with
      acquirePending := false, interval := .reference 0 0, P := 0
      d := adjustment (s.acquisitionStep k).clock.time.sec (s.acquisitionStep k).clock.F 0 } } := rfl

/-- An acquisition fixes the interval, the slew and d, whatever they were. -/
theorem State.acquisition_enterAcquire (k : Taken) (f : Clock → Clock)
    (hf : f s.clock = { s.clock with
      interval := (f s.clock).interval, P := (f s.clock).P, d := (f s.clock).d
      acquirePending := (f s.clock).acquirePending }) :
    (s.mapClock f).acquisition k = s.acquisition k := by
  rw [State.mapClock, hf]
  by_cases h : acquisitionSize k = 0 <;> simp only [State.acquisition, h, if_true, if_false] <;> rfl

/-- An acquisition without a step. -/
theorem State.acquisition_of_zero (k : Taken) (h : acquisitionSize k = 0) : s.acquisition k = { s with
    clock := { s.clock with
      acquirePending := false, interval := .reference 0 0, P := 0
      d := adjustment s.clock.time.sec s.clock.F 0 } } := by
  rw [State.acquisition_eq, State.acquisitionStep, if_pos h]

/-- An acquisition with a step. -/
theorem State.acquisition_of_step (k : Taken) (h : acquisitionSize k ≠ 0) : (s.acquisition k).clock =
    { s.clock.step (acquisitionSize k) .acquire with
      acquirePending := false, interval := .reference 0 0, P := 0
      d := adjustment (s.clock.time.add (acquisitionSize k)).sec s.clock.F 0 } := by
  rw [State.acquisition_eq, State.acquisitionStep, if_neg h]
  rfl

/-- The part with an edge taken and ACQUIRE entered, as R13 and R17 give it. -/
def State.acquiring : State :=
  { s with clock := { s.clock with
    refBytes := [], refLast := some s.clock.time, awaiting := none, missing := 0, state := .acquire
    restartPending := if s.clock.state = .unset then false else s.clock.restartPending
    returnCount := if s.clock.state = .unset then 0 else s.clock.returnCount } }

theorem State.takenEdge_acquires (k : Taken)
    (h : s.clock.state = .unset ∨ s.clock.state = .acquire ∧ s.clock.acquirePending = true) :
    s.edgeTaken.takenEdge k = s.acquiring.acquisition k := by
  rcases h with h | ⟨h, hp⟩
  · rw [← s.acquiring.acquisition_enterAcquire k (fun c => (s.edgeTaken.clock.enterAcquire false)) (by
      simp [State.acquiring, State.edgeTaken, Clock.enterAcquire, Clock.setSlew, Clock.refix, h])]
    simp [State.takenEdge, State.edgeTaken, h]
    rfl
  · have : s.edgeTaken = s.acquiring := by simp [State.edgeTaken, State.acquiring, h]
    rw [← this]
    simp [State.takenEdge, State.edgeTaken, h, hp]

/-- The acquisition in the statements' terms. -/
theorem State.acquisition_unique (k : Taken) (u v : State) (hu : u = s)
    (hv : v = if acquisitionSize k = 0 then u else u.applyStep (acquisitionSize k) .acquire) :
    s.acquisition k = { v with clock := { v.clock with
      acquirePending := false, interval := .reference 0 0, P := 0
      d := adjustment v.clock.time.sec v.clock.F 0 } } := by
  subst hu hv
  exact u.acquisition_eq k

/-- The part with the reference returned, before the acquisition. -/
def State.returning : State :=
  { s with clock := { s.clock with state := .acquire, restartPending := false, returnCount := 0, taken := none } }

theorem State.returnReference_acquires (k : Taken) (h : s.clock.taken = some k) :
    s.returnReference = s.returning.acquisition k := by
  rw [State.returnReference, h]
  exact s.returning.acquisition_enterAcquire k (fun _ => { s.clock.enterAcquire false with taken := none }) rfl

/-- Settles O12: each of the three is an acquisition, or a count. -/
theorem firstEdgeAndReturnAcquire : Obligations.FirstEdgeAndReturnAcquire := by
  refine ⟨fun s r b x seconds z h hs hz => ?_, fun s r b x seconds n h hs hn => ?_, fun s x z hs hn hx hz => ?_⟩
  · subst hz
    refine ⟨_, (exec_refrxCharacter_answers s h).trans (congrArg _ (s.takenEdge_acquires _ hs)), ?_⟩
    have unique := s.acquiring.acquisition_unique ⟨x, seconds⟩
    by_cases h0 : acquisitionSize ⟨x, seconds⟩ = 0
    · have ht := s.acquiring.acquisition_of_zero _ h0
      rw [ht] at unique ⊢
      exact ⟨rfl, rfl, rfl, rfl, rfl, rfl, rfl, rfl, rfl, rfl, fun _ => ⟨rfl, rfl, rfl, rfl⟩, fun h => absurd h0 h,
        unique⟩
    · have ht := s.acquiring.acquisition_of_step _ h0
      rw [ht, Clock.step_eq]
      exact ⟨rfl, rfl, rfl, rfl, rfl, rfl, rfl, rfl, rfl, rfl, fun h => absurd h h0, fun _ => ⟨rfl, rfl, rfl, rfl⟩,
        unique⟩
  · rw [exec_refrxCharacter_answers s h, hn]
    rcases hs with hs | hs <;> simp [State.takenEdge, State.edgeTaken, hs, State.mapClock, Clock.countReturn]
  · subst hz
    have hdue : Limit.due s .refReturn = true := by
      rcases hs with hs | hs <;> simp [Limit.due, State.returnDue, hs, hn, hx]
    refine ⟨_, (takeLimit_of s _ hdue).trans (congrArg _ (s.returnReference_acquires x hx)), ?_⟩
    have unique := s.returning.acquisition_unique x
    by_cases h0 : acquisitionSize x = 0
    · have ht := s.returning.acquisition_of_zero x h0
      rw [ht] at unique ⊢
      exact ⟨rfl, rfl, rfl, rfl, rfl, (if_pos h0).symm, (if_pos h0).symm, unique⟩
    · have ht := s.returning.acquisition_of_step x h0
      rw [ht, Clock.step_eq]
      exact ⟨rfl, rfl, rfl, rfl, rfl, (if_neg h0).symm, (if_neg h0).symm, unique⟩

end Sys2Proof.Machine

/-! ## Discipline and the reference evaluation (R8, R10, R14, R15) -/

namespace Sys2Proof.Machine

variable (s : State)

/-! ### An edge in its interval (R14) -/

/-- A taken edge is an edge of the interval in progress. -/
theorem Clock.disciplineEdge_of_next (c : Clock) (k : Taken) {e0 : Int} {n : Nat} (h : c.interval = .reference e0 n)
    (hg : k.edge.gap = false) : c.disciplineEdge k =
      { c with taken := if 16 ≤ n + 1 then some k else none, interval := .reference e0 (n + 1) } := by
  simp [Clock.disciplineEdge, Clock.intervalEdge, h, hg, Interval.complete]

/-- A taken edge begins the next interval. -/
theorem Clock.disciplineEdge_of_first (c : Clock) (k : Taken) {e0 : Int} {n : Nat}
    (h : c.interval = .none ∨ c.interval = .reference e0 n ∧ k.edge.gap = true) : c.disciplineEdge k =
      { c with taken := none, interval := .reference k.edge.e 0, P := 0, d := adjustment c.time.sec c.F 0 } := by
  rcases h with h | ⟨h, hg⟩
  · simp [Clock.disciplineEdge, Clock.intervalEdge, h, Interval.complete, Clock.setSlew, Clock.refix]
  · simp [Clock.disciplineEdge, Clock.intervalEdge, h, hg, Interval.complete, Clock.setSlew, Clock.refix]

theorem State.takenEdge_of_outlier (k : Taken) (h : s.clock.state = .locked) (he : 10000 < k.edge.e.natAbs) :
    s.takenEdge k = s.mapClock Clock.takeOutlier := by
  simp only [State.takenEdge, h, if_pos he]

theorem State.takenEdge_of_locked (k : Taken) (h : s.clock.state = .locked) (he : k.edge.e.natAbs ≤ 10000) :
    s.takenEdge k = (s.mapClock (fun c => { c with outliers := 0 })).discipline k := by
  simp only [State.takenEdge, h, if_neg (not_lt.mpr he)]

theorem State.takenEdge_of_acquire (k : Taken) (h : s.clock.state = .acquire) (hp : s.clock.acquirePending = false) :
    s.takenEdge k = s.discipline k := by
  simp [State.takenEdge, h, hp]

/-- The part with an edge taken for discipline, and this count of consecutive outliers. -/
def State.disciplining (outliers : Nat) : State :=
  { s with clock := { s.clock with
    refBytes := [], refLast := some s.clock.time, awaiting := none, missing := 0, outliers := outliers } }

theorem State.takenEdge_disciplines (k : Taken) (outliers : Nat)
    (h : s.clock.state = .locked ∧ k.edge.e.natAbs ≤ 10000 ∧ outliers = 0 ∨
      s.clock.state = .acquire ∧ s.clock.acquirePending = false ∧ outliers = s.clock.outliers) :
    s.edgeTaken.takenEdge k = (s.disciplining outliers).discipline k := by
  rcases h with ⟨h, he, rfl⟩ | ⟨h, hp, rfl⟩
  · exact s.edgeTaken.takenEdge_of_locked k h he
  · exact s.edgeTaken.takenEdge_of_acquire k h hp

theorem State.discipline_of_assigned (k : Taken) (h : k.seconds = k.edge.assigned) :
    s.discipline k = s.mapClock (fun c => c.disciplineEdge k) := by
  rw [State.discipline, State.correctSeconds, if_pos h]

/-- The part after a seconds correction (R10). -/
def State.corrected (k : Taken) : State :=
  (s.applyStep (10000000 * (k.seconds - k.edge.assigned).toInt) .seconds).mapClock (fun c =>
    { c with counters := { c.counters with corrections := min (c.counters.corrections + 1) 65535 } })

theorem State.discipline_of_corrected (k : Taken) (h : k.seconds ≠ k.edge.assigned) :
    s.discipline k = (s.corrected k).mapClock (fun c => c.disciplineEdge k) := by
  rw [State.discipline, State.correctSeconds, if_neg h]
  rfl

/-- What the interval leaves of the clock. -/
theorem Clock.disciplineEdge_kept (c : Clock) (k : Taken) :
    (c.disciplineEdge k).time = c.time ∧ (c.disciplineEdge k).F = c.F ∧ (c.disciplineEdge k).epoch = c.epoch ∧
    (c.disciplineEdge k).outliers = c.outliers ∧ (c.disciplineEdge k).counters = c.counters ∧
    (c.disciplineEdge k).log = c.log := by
  unfold Clock.disciplineEdge Clock.intervalEdge
  split
  · split <;> exact ⟨rfl, rfl, rfl, rfl, rfl, rfl⟩
  · exact ⟨rfl, rfl, rfl, rfl, rfl, rfl⟩
  · exact ⟨rfl, rfl, rfl, rfl, rfl, rfl⟩

/-- Settles O13: an outlier, an edge of the interval with or without a seconds correction, and the outlier limit. -/
theorem lockedEdgesDiscipline : Obligations.LockedEdgesDiscipline := by
  refine ⟨fun s r b x seconds h hs he => ?_, fun s r b x seconds e0 n outliers h hs => ⟨fun hsec hi hg => ?_,
    fun hsec hi => ?_, fun hsec hsub => ?_⟩, fun s hs ho => ?_⟩
  · rw [exec_refrxCharacter_answers s h]
    rw [s.edgeTaken.takenEdge_of_outlier _ hs he]
    rfl
  · rw [exec_refrxCharacter_answers s h, s.takenEdge_disciplines ⟨x, seconds⟩ outliers hs,
      State.discipline_of_assigned _ _ hsec, State.mapClock,
      Clock.disciplineEdge_of_next (s.disciplining outliers).clock ⟨x, seconds⟩ hi hg]
    rfl
  · rw [exec_refrxCharacter_answers s h, s.takenEdge_disciplines ⟨x, seconds⟩ outliers hs,
      State.discipline_of_assigned _ _ hsec, State.mapClock,
      Clock.disciplineEdge_of_first (s.disciplining outliers).clock ⟨x, seconds⟩ hi]
    rfl
  · refine ⟨_, (exec_refrxCharacter_answers s h).trans (congrArg _ ((s.takenEdge_disciplines ⟨x, seconds⟩ outliers
      hs).trans (State.discipline_of_corrected _ _ hsec))), ?_⟩
    have next (hi : s.clock.interval = .reference e0 n) (hg : x.gap = false) :=
      Clock.disciplineEdge_of_next ((s.disciplining outliers).corrected ⟨x, seconds⟩).clock ⟨x, seconds⟩ hi hg
    have first (hi : s.clock.interval = .none ∨ s.clock.interval = .reference e0 n ∧ x.gap = true) :=
      Clock.disciplineEdge_of_first ((s.disciplining outliers).corrected ⟨x, seconds⟩).clock ⟨x, seconds⟩ hi
    obtain ⟨htime, hF, hepoch, houtliers, hcounters, hlog⟩ :=
      Clock.disciplineEdge_kept ((s.disciplining outliers).corrected ⟨x, seconds⟩).clock ⟨x, seconds⟩
    refine ⟨htime.trans (Time.add_seconds _ _ hsub), hF, hepoch, houtliers, fun hi hg => ?_, fun hi => ?_,
      (congrArg ClockCounters.corrections hcounters :), (congrArg ClockCounters.steps hcounters :),
      congrArg (fun l => (l.map StepEntry.cause).head?) hlog, fun v hv => ⟨fun hi hg => ?_, fun hi => ?_⟩⟩
    · rw [State.mapClock_clock, next hi hg]
      exact ⟨rfl, rfl⟩
    · rw [State.mapClock_clock, first hi]
      exact ⟨rfl, rfl⟩
    · rw [hv, State.mapClock, next hi hg]
      rfl
    · rw [hv, State.mapClock, first hi]
      rfl
  · have hdue : Limit.due s .outlier = true := by simp [Limit.due, State.outlierLimitDue, hs, ho]
    exact takeLimit_of s .outlier hdue

/-! ### The reference evaluation (R15) -/

/-- Settles O14. -/
theorem referenceIsEvaluated : Obligations.ReferenceIsEvaluated := by
  intro s x e0 F n hi hn hx hF
  have hdue : Limit.due s .evaluation = true := by
    simp [Limit.due, State.evaluationDue, hi, Interval.complete, hn, hx]
  have hF' : newTrim s.clock.F s.clock.P s.clock.interval.eStart x.edge.e = F := by
    rw [hi, hF]
    rfl
  rw [exec_referenceEvaluation, takeLimit_of s _ hdue, Limit.effect, State.evaluateReference, hx]
  simp only [hF']
  refine ⟨fun he => ?_, fun he => ?_⟩
  · rw [if_pos he]
    rfl
  · rw [if_neg (by omega)]
    exact ⟨_, rfl, rfl, rfl, rfl, rfl, rfl, rfl, rfl, rfl, fun v hv => by rw [hv]; rfl⟩

end Sys2Proof.Machine

/-! ## Reference loss, peer steering and the peer table's ageing (R9, R16, R18 to R21, R54, R61) -/

namespace Sys2Proof.Machine

variable (s : State)

/-! ### The parts and the offsets of other stations (R18) -/

theorem State.mem_partsOf (l : List TimeClass) (p : TimePart) :
    p ∈ s.partsOf l ↔ ∃ n, n ≠ s.loader.station ∧ (s.peers.row n).time = some p ∧ p.cls ∈ l := by
  simp only [State.partsOf, List.mem_filterMap, stations, List.mem_finRange, true_and]
  refine exists_congr fun n => ?_
  by_cases h : n = s.loader.station <;> simp [h, Option.filter_eq_some_iff]

theorem State.mem_offsetsOf (l : List TimeClass) (m : Int) :
    m ∈ s.offsetsOf l ↔ ∃ p ∈ s.partsOf l, p.stale = false ∧ p.offset = m := by
  simp [State.offsetsOf, and_assoc]

/-- No part of other stations is of classes that none of them shows. -/
theorem State.partsOf_eq_nil (l : List TimeClass)
    (h : ∀ n p, n ≠ s.loader.station → (s.peers.row n).time = some p → p.cls ∉ l) : s.partsOf l = [] := by
  rw [List.eq_nil_iff_forall_not_mem]
  intro p hp
  obtain ⟨n, hn, htime, hcls⟩ := (s.mem_partsOf l p).mp hp
  exact h n p hn htime hcls

theorem State.offsetsOf_eq_nil (l : List TimeClass) (h : s.partsOf l = []) : s.offsetsOf l = [] := by
  simp [State.offsetsOf, h]

/-- The median of equal offsets is that offset. -/
theorem isMedian_of_forall_eq (l : List Int) (m : Int) (hm : m ∈ l) (h : ∀ x ∈ l, x = m) : isMedian l m := by
  have hl : 0 < l.length := List.length_pos_of_mem hm
  have hlt : l.countP (fun x => decide (x < m)) = 0 := by
    rw [List.countP_eq_zero]
    intro x hx
    simp [h x hx]
  have hle : l.countP (fun x => decide (x ≤ m)) = l.length := by
    rw [List.countP_eq_length]
    intro x hx
    simp [h x hx]
  exact ⟨hm, by omega, by omega⟩

theorem TimeClass.sources_subset (c : TimeClass) : c.sources ⊆ [.t0, .t1] := by
  cases c <;> decide

/-! ### The fall to HOLDOVER (R16) -/

/-- The part fallen to HOLDOVER, its sources not yet examined. -/
def State.heldOver : State :=
  { s with clock := { s.clock with
    state := .holdover, interval := .none, restartPending := false, acquirePending := false, age := 0, aged := false
    P := 0, d := adjustment s.clock.time.sec s.clock.F 0 } }

/-- The fall to HOLDOVER examines the sources as any clock in HOLDOVER does. -/
theorem State.enterHoldover_eq : s.enterHoldover = s.heldOver.reexamine := rfl

/-- With no part of class T0 or T1 left, a peer-steered clock falls to HOLDOVER and stays in it. -/
theorem State.reexamine_of_noPart (h : s.clock.state = .peerSteered) (hp : s.partsOf [.t0, .t1] = []) :
    s.reexamine = s.heldOver := by
  have none_of (u : State) (hu : u.partsOf [.t0, .t1] = []) (c : TimeClass) : u.partsOf c.sources = [] :=
    u.partsOf_eq_nil _ fun n p hn htime hcls => by
      have : p ∈ u.partsOf [.t0, .t1] := (u.mem_partsOf _ p).mpr ⟨n, hn, htime, c.sources_subset hcls⟩
      simp [hu] at this
  have hcandidates : s.candidates = [] := s.candidates_eq.trans (none_of s hp _)
  have hoffsets : s.heldOver.offsetsOf (TimeClass.t1).sources = [] :=
    State.offsetsOf_eq_nil _ _ (none_of s.heldOver hp .t1)
  obtain ⟨-, holdover, -⟩ := s.heldOver.reexamine_spec
  calc s.reexamine = s.considerCandidates := by simp [State.reexamine, h]
    _ = s.heldOver.reexamine := by simp [State.considerCandidates, hcandidates, State.enterHoldover_eq]
    _ = s.heldOver := (holdover .t1 (.inr ⟨rfl, rfl⟩)).1 hoffsets

/-! ### Reference loss (R9) -/

/-- The part with a reference loss counted. -/
def State.lossCounted : State :=
  { s with clock := { s.clock with
    missing := 0, outliers := 0, returnCount := 0
    counters := { s.clock.counters with losses := min (s.clock.counters.losses + 1) 65535 } } }

/-- A loss leaves a clock that does not steer by the reference in its state. -/
theorem State.loseReference_of_other
    (h : s.clock.state = .unset ∨ s.clock.state = .holdover ∨ s.clock.state = .peerSteered) :
    s.loseReference = s.lossCounted := by
  rcases h with h | h | h <;> simp only [State.loseReference, State.mapClock_clock, h] <;> rfl

/-- A loss ends in HOLDOVER, with the sources examined. -/
theorem State.loseReference_of_reference (h : s.clock.state = .acquire ∨ s.clock.state = .locked) :
    s.loseReference = s.lossCounted.heldOver.reexamine := by
  rcases h with h | h <;> simp only [State.loseReference, State.mapClock_clock, h] <;> rfl

/-- Settles O15: each cause brings the same loss, on the part that the cause leaves. -/
theorem lossEndsInHoldover : Obligations.LossEndsInHoldover := by
  refine ⟨fun s u c h => ?_, fun s hs ha hm => ?_⟩
  · have hexec : exec c s = .next u.loseReference ∧ u.clock.state = s.clock.state ∧
        u.clock.counters = s.clock.counters ∧ u.clock.time = s.clock.time ∧ u.clock.F = s.clock.F := by
      rcases h with ⟨rfl, h, hp, ⟨t, ht, hd⟩, rfl⟩ | ⟨rfl, hm, rfl⟩ | ⟨⟨r, b, x, rfl, h⟩, rfl⟩
      · rw [exec_referenceLoss, carryOut_of s _ _ h
          (by simp [State.isRunning, hp, State.lossPeriodOver, ht, State.now, hd])]
        exact ⟨rfl, rfl, rfl, rfl, rfl⟩
      · exact ⟨takeLimit_of u .missing (by simp [Limit.due, State.missingLimitDue, hm]), rfl, rfl, rfl, rfl⟩
      · exact ⟨exec_refrxCharacter_refuses s h, rfl, rfl, rfl, rfl⟩
    obtain ⟨hexec, hstate, hcounters, htime, hF⟩ := hexec
    rw [← hstate, ← hcounters, ← htime, ← hF, hexec]
    refine ⟨fun hs => ?_, fun hs => ?_⟩
    · rw [u.loseReference_of_other hs]
      rfl
    · exact ⟨_, congrArg _ (u.loseReference_of_reference hs), State.reexamine_spec _⟩
  · have hdue : Limit.due s .age = true := by simp [Limit.due, State.ageLimitDue, hs, ha, hm]
    exact ⟨by simp [State.timeClass, Clock.timeClass, hs, hm], by simp [State.timeClass, Clock.timeClass, hs], _,
      takeLimit_of s .age hdue, State.reexamine_spec _⟩

/-! ### The peer evaluation (R20) -/

/-- Settles O16. -/
theorem peersAreEvaluated : Obligations.PeersAreEvaluated := by
  intro s e0 start c h hp hs hi hr hd hc
  have hoffsets : s.sourceOffsets = s.offsetsOf c.sources := by
    rw [s.sourceOffsets_eq, State.steering, hs, hc]
    rfl
  have hexec : exec .peerEvaluation s = .next s.evaluatePeers := by
    rw [exec_peerEvaluation, carryOut_of s _ _ h
      (by simp [State.isRunning, hp, State.peerEvaluationDue, hs, hi, hr, State.now, hd])]
  rw [hexec, State.evaluatePeers, hoffsets]
  refine ⟨fun hn => by rw [hn]; rfl, fun m F hm hF => ?_⟩
  obtain ⟨hne, hmedian⟩ := median_eq _ _ hm
  have hF' : newTrim s.clock.F s.clock.P s.clock.interval.eStart m = F := by
    rw [hi, hF]
    rfl
  rw [if_neg (by simpa using hne), hmedian]
  simp only [hF']
  refine ⟨fun he => ?_, fun he => ?_⟩
  · rw [if_pos he]
    rfl
  · rw [if_neg (by omega)]
    exact ⟨_, rfl, rfl, rfl, rfl, rfl, rfl, hs, rfl, fun v hv => by rw [hv]; rfl⟩

/-! ### BEACONs (R51 to R54) -/

theorem beaconPart_eq (e : InEntry) : beaconPart e = e.timePart := by
  simp only [beaconPart, InEntry.timePart, stampAt, bitsOf, beaconOffset, clampInt, Time.diff, Time.inSecond,
    secondCycles]
  norm_num [← decide_not]

theorem InEntry.row_of (e : InEntry) (n : Station) (h : n.val = e.sender.toNat) : e.row = n := by
  apply Fin.ext
  simp only [InEntry.row, Fin.ofNat, ← h]
  omega

/-- An entry that passes the filter is applied. -/
theorem filterEntry_of_passes (e : InEntry) (h : s.passes e) : filterEntry s.own s.profile.peerSet e = .applies := by
  obtain ⟨hlt, hne, hset⟩ := h
  simp [filterEntry, hne, hset, show ¬ 14 ≤ e.sender.toNat by omega]

/-- A BEACON that passes sets the time part of its sender's row, and the clock examines its sources again. -/
theorem exec_inboundBeacon_passes {e : InEntry} {rest : List InEntry} {n : Station} (h : s.takesEntry e rest)
    (hp : s.passes e) (hn : n.val = e.sender.toNat) (hk : e.kind = .beacon) :
    exec .inboundBeacon s = .next (s.withTimePart rest n e.timePart).reexamine := by
  obtain ⟨hs, hr, hh, hq⟩ := h
  have hready : s.entryReady .beacon = true := hk ▸ s.entryReady_of e rest hr hh hq
  rw [exec_inboundBeacon, carryOut_of s _ _ hs hready, s.inbound_eq e rest _ hq, filterEntry_of_passes s e hp]
  simp only [State.applyBeacon, beaconPart_eq, e.row_of n hn]
  rfl

/-- Settles O33: the second part is the re-examination with one source. -/
theorem beaconsBeginPeerSteering : Obligations.BeaconsBeginPeerSteering := by
  refine ⟨fun s e rest n h hp hn hk => ⟨_, exec_inboundBeacon_passes s h hp hn hk, State.reexamine_spec _⟩,
    fun s e rest n p h hp hn hk hpart hcls hstale hs hothers => ?_⟩
  subst hpart
  obtain ⟨-, hother, -⟩ := id hp
  have hmedian : isMedian ((s.withTimePart rest n e.timePart).offsetsOf (TimeClass.t4).sources) e.timePart.offset := by
    have hrow : ((s.withTimePart rest n e.timePart).peers.row n).time = some e.timePart := by
      simp [State.withTimePart]
    have hne : n ≠ s.loader.station := fun h => hother (by rw [← hn, h])
    refine isMedian_of_forall_eq _ _ ?_ fun x hx => ?_
    · exact (State.mem_offsetsOf _ _ _).mpr ⟨_, (State.mem_partsOf _ _ _).mpr
        ⟨n, hne, hrow, by simpa [TimeClass.sources] using hcls⟩, hstale, rfl⟩
    · obtain ⟨q, hq, hfresh, rfl⟩ := (State.mem_offsetsOf _ _ _).mp hx
      obtain ⟨m, hm, htime, hqcls⟩ := (State.mem_partsOf _ _ _).mp hq
      by_cases hmn : m = n
      · rw [hmn, hrow] at htime
        cases htime
        rfl
      · have htime' : (s.peers.row m).time = some q := by
          rwa [State.withTimePart, Peers.row_setRow_other _ _ _ _ hmn] at htime
        rcases hothers m q hmn hm htime' with ⟨h0, h1⟩ | h
        · simp [TimeClass.sources, h0, h1] at hqcls
        · simp [hfresh] at h
  obtain ⟨-, entry, -⟩ := (s.withTimePart rest n e.timePart).reexamine_spec
  have entered := (entry .t4 (.inl ⟨hs, rfl⟩)).2 _ hmedian
  rw [exec_inboundBeacon_passes s h hp hn hk]
  generalize (s.withTimePart rest n e.timePart).reexamine = t at entered
  have entered' := entered
  obtain ⟨hstate, hsteering, -, hF, hP, hd, slew, step⟩ := entered
  refine ⟨fun he => ?_, fun he => ?_⟩
  · have ht := slew he
    have htime : t.clock.time = s.clock.time := by
      rw [ht]
      rfl
    rw [hd, htime] at ht
    rw [ht]
    rfl
  · obtain ⟨htime, hinterval, hepoch, hlog, hpeers, -⟩ := step he
    refine ⟨t, rfl, hstate, hsteering, htime, hP, hF, hinterval, hepoch, by rw [hlog]; rfl, ?_,
      by simp [State.timeClass, Clock.timeClass, hstate], entered'⟩
    rw [hpeers, Peers.row_move]
    simp [State.withTimePart, Row.markStale]

/-! ### Ageing (R49, R61) -/

/-- Settles O36. -/
theorem agedPartsBecomeAbsent : Obligations.AgedPartsBecomeAbsent := by
  intro s n
  refine ⟨fun hc ht => ?_, fun p hp ha => ?_, fun p hp hl => ?_, fun p hp ha => ?_⟩
  · exact takeLimit_of s .conflict (by simp [Limit.due, State.conflictOver, hc, ht])
  · exact takeLimit_of s (.heatPart n) (by simp [Limit.due, Row.heatAged, hp, ha])
  · exact takeLimit_of s (.triggerPart n) (by simp [Limit.due, Row.triggerAged, hp, hl])
  · have hexec : exec (.timePartAgeOut n) s = .next (s.dropTimePart n) :=
      takeLimit_of s (.timePart n) (by simp [Limit.due, Row.timeAged, hp, ha])
    rw [hexec]
    refine ⟨⟨_, rfl, State.reexamine_spec _⟩, fun hs => ?_, fun hs hothers => ?_⟩
    · exact congrArg _ ((State.reexamine_spec _).1 hs)
    · refine congrArg _ (State.reexamine_of_noPart _ hs (State.partsOf_eq_nil _ _ fun m q hm hq => ?_))
      by_cases hmn : m = n
      · simp [hmn] at hq
      · have htime : (s.peers.row m).time = some q := by
          rwa [State.mapPeers_peers, Peers.row_setRow_other _ _ _ _ hmn] at hq
        simpa using hothers m q hmn hm htime

end Sys2Proof.Machine

/-! ## The second boundary event (R4, R16, R44, R49, R61, R154, R155, R195) -/

namespace Sys2Proof.Machine

variable (s : State)

/-! ### The counts -/

/-- A boundary that has just fallen, later than the latest one issued, is the one to issue. -/
theorem State.boundary_of_atBoundary (h : s.atBoundary) : s.boundary = some s.clock.time.sec := by
  obtain ⟨hsub, hlater⟩ := h
  have hfell : s.fell 0 = some ⟨s.clock.time.sec, 0⟩ := by
    simp [State.fell, State.now, hsub]
  unfold State.boundary
  rw [hfell]
  cases hb : s.clock.latestBoundary with
  | none => rfl
  | some b => exact if_pos (decide_eq_true (hlater b hb))

/-- The part with a second boundary counted in every block but the annunciator. -/
def State.boundaryCounted (r : Readings) : State :=
  { s with
    pins := { s.pins with analog := r }
    trunk := s.trunk.latch
    peers := { s.peers with rows := s.peers.rows.map s.ageRow, conflictTimer := s.peers.conflictTimer - 1 }
    loader := s.loader.boundary
    clock := { s.clock.boundary with latestBoundary := some s.clock.time.sec } }

/-- The part with the annunciator's count too: what a boundary leaves before any reading. -/
def State.boundaryAnnounced (r : Readings) : State :=
  (s.boundaryCounted r).annunciateBoundary ⟨s.clock.time.sec, 0⟩

theorem State.boundaryEvent_eq (r : Readings) (h : s.atBoundary) : s.boundaryEvent r =
    if s.isRunning then ((s.boundaryAnnounced r).takeReading r).bringComputation s.clock.time.sec
    else s.boundaryAnnounced r := by
  have hrun : (s.boundaryAnnounced r).isRunning = s.isRunning := by
    simp [State.boundaryAnnounced, State.isRunning, State.boundaryCounted, Loader.boundary]
  rw [← hrun, State.boundaryEvent, s.boundary_of_atBoundary h]
  rfl

/-- A second boundary event changes, of what its own counts have left, the battery monitor and the heater controller
alone. -/
theorem State.boundaryEvent_frame (r : Readings) (h : s.atBoundary) :
    s.boundaryEvent r = { s.boundaryAnnounced r with
      battery := (s.boundaryEvent r).battery, heater := (s.boundaryEvent r).heater } := by
  rw [s.boundaryEvent_eq r h]
  split
  · have hread := State.takeReading_frame (s.boundaryAnnounced r) r
    have hbring := State.bringComputation_frame ((s.boundaryAnnounced r).takeReading r) s.clock.time.sec
    generalize State.bringComputation _ _ = t at hbring
    cases t
    simp_all
  · rfl

/-- The annunciator's count changes the alert unit alone. -/
theorem State.boundaryAnnounced_frame (r : Readings) :
    s.boundaryAnnounced r = { s.boundaryCounted r with alerts := (s.boundaryAnnounced r).alerts } := by
  have hframe := State.annunciateBoundary_frame (s.boundaryCounted r) ⟨s.clock.time.sec, 0⟩
  unfold State.boundaryAnnounced
  generalize State.annunciateBoundary _ _ = t at hframe
  cases t
  simp_all

/-! ### The annunciator (R154, R155) -/

/-- The annunciator's count changes its own pattern alone. -/
theorem State.annunciateBoundary_alerts (p : Time) : (s.annunciateBoundary p).alerts = { s.alerts with
    annState := (s.annunciateBoundary p).alerts.annState, slot := (s.annunciateBoundary p).alerts.slot
    level := (s.annunciateBoundary p).alerts.level, slotPoint := (s.annunciateBoundary p).alerts.slotPoint
    ann := (s.annunciateBoundary p).alerts.ann } := by
  unfold State.annunciateBoundary State.nextSlot State.startPattern
  (repeat' split) <;> rfl

theorem State.annunciateBoundary_of_off (p : Time) (h : s.alerts.annState = .off) : s.annunciateBoundary p = s := by
  simp [State.annunciateBoundary, h]

/-- The next slot of the pattern that plays. -/
theorem State.annunciateBoundary_of_next (p : Time) (h : s.alerts.annState = .playing)
    (hl : s.alerts.slot + 1 < (s.loader.profile.pattern s.alerts.level).2) :
    (s.annunciateBoundary p).alerts = { s.alerts with
      slot := s.alerts.slot + 1, slotPoint := some p
      ann := (s.loader.profile.pattern s.alerts.level).1.getLsbD (s.alerts.slot + 1) } := by
  simp only [State.annunciateBoundary, h, State.nextSlot, State.profile_eq, if_pos hl, Profile.slotDriven]

/-- A pattern begins, afresh or again, at the level of the open record. -/
theorem State.annunciateBoundary_of_start (p : Time) (e : Event) (he : s.openEvent = some e)
    (h : s.alerts.annState = .waiting ∨ s.alerts.annState = .playing ∧
      (s.loader.profile.pattern s.alerts.level).2 ≤ s.alerts.slot + 1) :
    (s.annunciateBoundary p).alerts = { s.alerts with
      annState := .playing, slot := 0, level := e.level, slotPoint := some p
      ann := (s.loader.profile.pattern e.level).1.getLsbD 0 } := by
  rcases h with h | ⟨h, hl⟩
  · simp [State.annunciateBoundary, h, State.startPattern, he, Profile.slotDriven]
  · simp [State.annunciateBoundary, h, State.nextSlot, not_lt.mpr hl, State.startPattern, he, Profile.slotDriven]

/-! ### The computation (R174) -/

/-- A reading leaves the mark of a computation. -/
theorem State.takeReading_computationDue (r : Readings) :
    (s.takeReading r).heater.computationDue = s.heater.computationDue := by
  unfold State.takeReading
  dsimp only
  split
  · rfl
  · rw [State.stageTests_heater]
    split
    · rfl
    · rw [State.allocate_heater]
      rfl

theorem State.bringComputation_due (sec : BitVec 32) : (s.bringComputation sec).heater.computationDue = true ↔
    s.heater.computationDue = true ∨ sec.toNat % 10 = 0 := by
  unfold State.bringComputation
  split <;> rename_i h <;> simp [h]

/-! ### The event -/

theorem Trunk.latch_eq (t : Trunk) : t.latch = { t with
    faultSeen := decide (t.line = .fault)
    counters :=
      { framingErrors := t.counters.framingErrors.latched, checkFailures := t.counters.checkFailures.latched
        truncated := t.counters.truncated.latched, stray := t.counters.stray.latched
        losses := t.counters.losses.latched, driveFaults := t.counters.driveFaults.latched
        overruns := t.counters.overruns.latched, conflicts := t.counters.conflicts.latched
        faultSeconds := (if t.faultSeen then
          { t.counters.faultSeconds with
            running := t.counters.faultSeconds.running + 1
            total := min (t.counters.faultSeconds.total + 1) 65535 }
          else t.counters.faultSeconds).latched } } := by
  cases h : t.faultSeen <;> simp [Trunk.latch, h] <;> rfl

/-- Settles O18: the counts of the blocks, and in RUNNING the reading. -/
theorem boundaryCountsEveryBlock : Obligations.BoundaryCountsEveryBlock := by
  intro s r h hp hb
  have hexec : exec (.secondBoundaryEvent r) s = .next (s.boundaryEvent r) := by
    rw [exec_secondBoundaryEvent, carryOut_of s _ _ h (by simp [State.isReleased, hp, s.boundary_of_atBoundary hb])]
  refine ⟨_, hexec, ?_⟩
  have hframe : s.boundaryEvent r = { s.boundaryCounted r with
      alerts := (s.boundaryAnnounced r).alerts
      battery := (s.boundaryEvent r).battery, heater := (s.boundaryEvent r).heater } := by
    conv_lhs => rw [s.boundaryEvent_frame r hb, s.boundaryAnnounced_frame r]
  have hevent := s.boundaryEvent_eq r hb
  generalize s.boundaryEvent r = t at hframe hevent
  rw [hframe]
  refine ⟨?_, rfl, rfl, rfl, fun n => ?_, s.trunk.latch_eq, fun ha => ?_, fun ha hl => ?_, fun e he ha => ?_,
    State.annunciateBoundary_alerts _ _, fun hl => ?_, fun hr => ?_, rfl⟩
  · simp only [State.boundaryCounted, Clock.boundary]
    split <;> rfl
  · have hrow : Peers.row { s.peers with rows := s.peers.rows.map s.ageRow } n = s.ageRow (s.peers.row n) := by
      simp [Peers.row]
    exact ⟨congrArg Row.time hrow, congrArg Row.heat hrow, congrArg Row.trigger hrow⟩
  · exact (congrArg State.alerts ((s.boundaryCounted r).annunciateBoundary_of_off _ ha) :)
  · have halerts : (s.boundaryAnnounced r).alerts = _ := State.annunciateBoundary_of_next _ _ ha hl
    rw [halerts]
    exact ⟨rfl, ha, rfl⟩
  · have halerts : (s.boundaryAnnounced r).alerts = _ := State.annunciateBoundary_of_start _ _ e he ha
    rw [halerts]
    exact ⟨rfl, rfl, rfl, rfl⟩
  · rw [if_neg (by simp [State.isRunning, hl]), s.boundaryAnnounced_frame r] at hevent
    rw [hevent]
    exact ⟨rfl, rfl⟩
  · rw [if_pos (by simp [State.isRunning, hr])] at hevent
    have hdue := State.bringComputation_due ((s.boundaryAnnounced r).takeReading r) s.clock.time.sec
    rw [← hevent, State.takeReading_computationDue, s.boundaryAnnounced_frame r] at hdue
    exact hdue

end Sys2Proof.Machine

/-! ## Characters and the transmitter's levels (R26 to R28, R38, R40, R42) -/

namespace Sys2Proof.Machine

variable (s : State)

/-! ### A bit time and a data byte (R27, R28) -/

/-- Three equal samples carry the majority. -/
theorem bitTime_of_samples (w : BitVec 169) (k : Nat) (b : Bool)
    (h : ∀ n, 7 ≤ n → n ≤ 9 → w.getLsbD (16 * k + n - 1) = b) : bitTime w k = b := by
  have h7 : sampleAt w k 7 = b := h 7 (by omega) (by omega)
  have h8 : sampleAt w k 8 = b := h 8 (by omega) (by omega)
  have h9 : sampleAt w k 9 = b := h 9 (by omega) (by omega)
  rw [bitTime, h7, h8, h9]
  cases b <;> rfl

theorem bit_getLsbD {n : Nat} (d : BitVec n) (k : Nat) : bit (d.getLsbD k) = d.toNat / 2 ^ k % 2 := by
  rw [BitVec.getLsbD, Nat.testBit_eq_decide_div_mod_eq, bit]
  have := Nat.mod_two_eq_zero_or_one (d.toNat / 2 ^ k)
  by_cases h : d.toNat / 2 ^ k % 2 = 1
  · simp [h]
  · simp [h]; omega

/-- The byte of bit times 1 to 8 is the one whose bits they show. -/
theorem charData_of_bits (w : BitVec 169) (d : Byte) (h : ∀ k, k < 8 → bitTime w (k + 1) = d.getLsbD k) :
    charData w = d := by
  have hlt := d.isLt
  rw [charData, h 0 (by omega), h 1 (by omega), h 2 (by omega), h 3 (by omega), h 4 (by omega), h 5 (by omega),
    h 6 (by omega), h 7 (by omega)]
  simp only [bit_getLsbD]
  apply BitVec.eq_of_toNat_eq
  rw [BitVec.toNat_ofNat]
  omega

/-! ### The levels an attempt sends (R27, R38, R42) -/

/-- A BEACON's time and class fields are filled from the attempt; every other body goes out as it was handed over. -/
theorem TxFrame.sentBody_eq (f : TxFrame) (run : TxRun) : f.sentBody run =
    if f.kind = .beacon then leBytes 4 run.field.sec.toNat ++ leBytes 3 run.field.sub
      ++ [BitVec.ofNat 8 ((f.body.getD 7 0).toNat + run.cls.code)] ++ f.body.drop 8 else f.body := by
  unfold TxFrame.sentBody
  cases f.kind <;> rfl

/-- A bit time is dominant in a start bit, a 0 bit and the marker of any character but the head. -/
theorem frameLevel_eq_false_iff (bytes : List Byte) (c b : Nat) (hb : b < 11) :
    frameLevel bytes (11 * c + b) = false ↔ c < bytes.length ∧
      (b = 0 ∨ 1 ≤ b ∧ b ≤ 8 ∧ (bytes.getD c 0).getLsbD (b - 1) = false ∨ b = 9 ∧ c ≠ 0) := by
  have hdiv : (11 * c + b) / 11 = c := by omega
  have hmod : (11 * c + b) % 11 = b := by omega
  rw [frameLevel, hdiv, hmod]
  split
  next hlen => simp [Nat.not_lt.mpr hlen]
  next hlen =>
    have hc : c < bytes.length := by omega
    split
    next => simp [hc]
    next => simp [hc]
    next => simp
    next h0 h9 h10 =>
      have hfirst : b ≠ 0 := h0
      have hmarker : b ≠ 9 := h9
      have hstop : b ≠ 10 := h10
      have hdata : 1 ≤ b ∧ b ≤ 8 := by omega
      simp [hc, hdata, hfirst, hmarker]

theorem State.trunkDriven_of_sending {f : TxFrame} {run : TxRun} (h : s.trunk.tx = .sending f run) :
    s.trunkDriven = true ↔ s.trunk.releasing = true ∨ s.sentLevel f run (run.position / 16) = false := by
  simp [State.trunkDriven, State.sendsDominant, h]

theorem State.sendsDominant_of_sending {f : TxFrame} {run : TxRun} (h : s.trunk.tx = .sending f run) :
    s.sendsDominant = !s.sentLevel f run (run.position / 16) := by
  simp [State.sendsDominant, h]

theorem State.sendsDominant_of_notSending (h : ∀ f r, s.trunk.tx ≠ .sending f r) : s.sendsDominant = false := by
  unfold State.sendsDominant
  split
  next => rfl
  next => rfl
  next f r htx => exact absurd htx (h f r)

/-- Settles O20: the majority of equal samples, and the levels of `frameLevel`. -/
theorem characterReadsBack : Obligations.CharacterReadsBack := by
  refine ⟨fun w d marker stop hd hm hs => ⟨?_, bitTime_of_samples w 9 marker hm, bitTime_of_samples w 10 stop hs⟩,
    fun s f run front bytes htx hfront hbytes => ⟨fun c b hb => ?_, s.trunkDriven_of_sending htx⟩, fun s h => ?_⟩
  · exact charData_of_bits w d fun k hk =>
      bitTime_of_samples w (k + 1) _ fun n h7 h9 => hd (k + 1) n (by omega) (by omega) h7 h9
  · have hsent : f.sentBytes s.own run = bytes := by
      rw [hbytes, hfront, ← f.sentBody_eq run]
      rfl
    rw [State.sentLevel, hsent]
    exact frameLevel_eq_false_iff bytes c b hb
  · rw [State.trunkDriven, s.sendsDominant_of_notSending h, Bool.or_false]

end Sys2Proof.Machine

/-! ## The line outside a character (R26, R28 to R31, R33, R37) -/

namespace Sys2Proof.Machine

variable (s : State)

theorem Receiver.inside_of_ne {r : Receiver} (h : ∀ n c, r ≠ .inChar n c) : r.inside = false := by
  rw [Bool.eq_false_iff, ne_eq, Receiver.inside_iff]
  rintro ⟨n, c, hr⟩
  exact h n c hr

theorem State.lineQuiet_of (hp : s.loader.phase ≠ .held) (hr : ∀ n c, s.trunk.receiver ≠ .inChar n c) :
    s.lineQuiet = true := by
  simp [State.lineQuiet, State.isReleased, hp, Receiver.inside_of_ne hr]

/-! ### What an edge, a rise and the IDLE state make of each part -/

theorem LineState.edge_eq (l : LineState) : l.edge = if l = .idle then .busy else l := by
  cases l <;> rfl

theorem Receiver.edge_of_ne (now : Time) {r : Receiver} (h : ∀ n c, r ≠ .inChar n c) :
    r.edge now = if r = .off then .off else .inChar 1 now := by
  cases r with
  | inChar n c => exact absurd rfl (h n c)
  | off => rfl
  | hunting => rfl
  | waitRecessive => rfl

theorem Receiver.rise_eq (r : Receiver) : r.rise = if r = .waitRecessive then .hunting else r := by
  cases r <;> rfl

/-- A frame in assembly is dropped and counted, and nothing else changes. -/
theorem State.dropTruncated_eq : s.dropTruncated = { s with trunk := { s.trunk with
    counters := match s.trunk.assembler with
      | .assembling _ => { s.trunk.counters with truncated := s.trunk.counters.truncated.increase }
      | .noFrame => s.trunk.counters
      | .discarding => s.trunk.counters } } := by
  unfold State.dropTruncated
  cases s.trunk.assembler <;> rfl

/-- The receiver of a line that becomes IDLE hunts, once loading has ended or where it was on before. -/
theorem Receiver.lineIdle_of_on {r : Receiver} {running : Bool} (h : ∀ n c, r ≠ .inChar n c)
    (hon : r ≠ .off ∨ running = true) : r.lineIdle running = .hunting := by
  cases r with
  | inChar n c => exact absurd rfl (h n c)
  | off =>
    have hrun : running = true := hon.resolve_left (fun hne => hne rfl)
    simp [Receiver.lineIdle, hrun]
  | hunting => rfl
  | waitRecessive => rfl

/-! ### The reports -/

/-- Settles O21: the conditions of each report hold, and its effect is that of the trunk's own operation. -/
theorem lineMovesTheReceiver : Obligations.LineMovesTheReceiver := by
  refine ⟨fun s h => ⟨fun hp hr => ?_, fun n c hr htx => ?_, fun hp hr hrise => ?_⟩, fun s h hp hr =>
    ⟨fun hl ht => ?_, fun hl hrun => ?_⟩⟩
  · rw [exec_fallingEdge, carryOut_of s _ _ h (by simp [State.isReleased, hp, Receiver.inside_of_ne hr])]
    simp only [State.mapTrunk, Trunk.fallingEdge, LineState.edge_eq, Receiver.edge_of_ne _ hr]
    cases s.trunk.tx <;> rfl
  · rw [exec_glitch, carryOut_of s _ _ h (by simp [hr, Receiver.inside]), State.takeGlitch,
      s.sendsDominant_of_notSending htx]
    rfl
  · rw [exec_receiverHuntsAgain, carryOut_of s _ _ h (by simp [State.mayRise, s.lineQuiet_of hp hr, hrise])]
    simp only [State.mapTrunk, Trunk.rise, Receiver.rise_eq]
  · refine ⟨_, by rw [exec_lineIdle, carryOut_of s _ _ h
      (by simp [State.idleReached, s.lineQuiet_of hp hr, hl, ht])], ?_⟩
    rw [State.lineBecomesIdle, State.dropTruncated_eq]
    refine ⟨rfl, rfl, fun hon => ?_, fun hoff hload => ?_, fun hasm => ?_, fun hasm => ?_, rfl⟩
    · exact Receiver.lineIdle_of_on hr (hon.imp_right (by simp [State.isRunning]))
    · simp [hoff, Receiver.lineIdle, State.isRunning, hload]
    · obtain ⟨a, ha⟩ := hasm
      simp only [State.mapTrunk, ha]
    · cases ha : s.trunk.assembler with
      | assembling a => exact absurd ha (hasm a)
      | noFrame => rfl
      | discarding => rfl
  · rw [exec_lineFault, carryOut_of s _ _ h (by simp [State.faultReached, s.lineQuiet_of hp hr, hl, hrun])]
    simp only [State.mapTrunk, Trunk.lineFault]
    cases s.trunk.tx <;> rfl

end Sys2Proof.Machine

/-! ## The characters of other stations' frames (R28, R29, R32 to R36, R45) -/

namespace Sys2Proof.Machine

variable (s : State)

/-! ### The report of a character -/

/-- What the read-back shows of samples that all read as they were sent. -/
theorem State.characterReadBack_of_equal (w : BitVec 169) (h : s.readsBackEqual w) :
    s.characterReadBack w = .equal := by
  unfold State.characterReadBack
  split
  next => rfl
  next => rfl
  next f run htx => exact readBackFrom_equal _ w 11 fun k hk => h f run htx k hk

theorem State.readsBackEqual_of_notSending (w : BitVec 169) (h : ∀ f r, s.trunk.tx ≠ .sending f r) :
    s.readsBackEqual w :=
  fun f r htx => absurd htx (h f r)

/-- The part after the receiver and the assembler have taken a character, before the transmitter is told. -/
def State.characterTaken (w : BitVec 169) (c : Time) : State :=
  (s.mapTrunk (fun t => t.endCharacter w)).takeCharacter w c

theorem State.receiveCharacter_of_inside (w : BitVec 169) {n : Nat} {c : Time} (h : s.trunk.receiver = .inChar n c) :
    s.receiveCharacter w = (s.characterTaken w c).ownCharacter := by
  simp only [State.receiveCharacter, h, State.characterTaken]

/-- A character that is neither a glitch nor read back unequal is taken. -/
theorem exec_characterReceived_equal (w : BitVec 169) {n : Nat} {c : Time} (h : s.isSettled = true)
    (hr : s.trunk.receiver = .inChar n c) (hstart : w.getLsbD 7 = false) (hread : s.readsBackEqual w) :
    exec (.characterReceived w) s = .next (s.characterTaken w c).ownCharacter := by
  have hglitch : isGlitch w = false := hstart
  rw [exec_characterReceived, carryOut_of s _ _ h (by simp [hr, Receiver.inside]), State.readCharacter_eq,
    s.characterReadBack_of_equal w hread, hglitch, s.receiveCharacter_of_inside w hr]
  rfl

/-! ### What taking a character leaves -/

theorem State.headCharacter_trunk (x : Byte) (c : Time) : (s.headCharacter x c).trunk = { s.trunk with
    assembler := (s.headCharacter x c).trunk.assembler
    counters := { s.trunk.counters with truncated := (s.headCharacter x c).trunk.counters.truncated } } := by
  rw [State.headCharacter, State.dropTruncated_eq]
  cases FrameKind.ofCode (x.toNat % 16) <;> cases s.trunk.assembler <;> rfl

/-- Delivery appends to the inbound queue or counts an overrun. -/
theorem State.deliver_kept (f : Assembly) :
    (s.deliver f).trunk = { s.trunk with
      counters := { s.trunk.counters with overruns := (s.deliver f).trunk.counters.overruns } } ∧
    (s.deliver f).peers = { s.peers with queue := (s.deliver f).peers.queue } := by
  unfold State.deliver
  split <;> exact ⟨rfl, rfl⟩

/-- A check character is a delivery or a check failure. -/
theorem State.checkCharacter_kept (f : Assembly) (x : Byte) :
    (s.checkCharacter f x).trunk = { s.trunk with
      assembler := .noFrame
      counters := { s.trunk.counters with
        overruns := (s.checkCharacter f x).trunk.counters.overruns
        checkFailures := (s.checkCharacter f x).trunk.counters.checkFailures } } ∧
    (s.checkCharacter f x).peers = { s.peers with queue := (s.checkCharacter f x).peers.queue } := by
  unfold State.checkCharacter
  dsimp only
  split
  · split
    · exact ⟨rfl, rfl⟩
    · obtain ⟨htrunk, hpeers⟩ := (s.mapTrunk fun t => { t with assembler := .noFrame }).deliver_kept f
      exact ⟨by rw [htrunk]; rfl, by rw [hpeers]; rfl⟩
  · exact ⟨rfl, rfl⟩

theorem State.bodyCharacter_kept (x : Byte) :
    (s.bodyCharacter x).trunk = { s.trunk with
      assembler := (s.bodyCharacter x).trunk.assembler
      counters := { s.trunk.counters with
        overruns := (s.bodyCharacter x).trunk.counters.overruns
        checkFailures := (s.bodyCharacter x).trunk.counters.checkFailures
        stray := (s.bodyCharacter x).trunk.counters.stray } } ∧
    (s.bodyCharacter x).peers = { s.peers with queue := (s.bodyCharacter x).peers.queue } := by
  unfold State.bodyCharacter
  split
  · exact ⟨rfl, rfl⟩
  · exact ⟨rfl, rfl⟩
  next f _ =>
    split
    · exact ⟨rfl, rfl⟩
    · obtain ⟨htrunk, hpeers⟩ := s.checkCharacter_kept f x
      exact ⟨by rw [htrunk], hpeers⟩

/-- Taking a character leaves the attempt in progress, and counts none as lost. -/
theorem State.characterTaken_attempt (w : BitVec 169) (c : Time) :
    (s.characterTaken w c).trunk.tx = s.trunk.tx ∧ (s.characterTaken w c).trunk.own = s.trunk.own ∧
    (s.characterTaken w c).trunk.counters.losses = s.trunk.counters.losses := by
  unfold State.characterTaken State.takeCharacter
  split
  · dsimp only
    split
    · rw [State.headCharacter_trunk]; exact ⟨rfl, rfl, rfl⟩
    · rw [(State.bodyCharacter_kept _ _).1]; exact ⟨rfl, rfl, rfl⟩
  · exact ⟨rfl, rfl, rfl⟩

/-- A recessive stop bit leaves the receiver hunting, and of the peer table the queue alone can change. -/
theorem State.characterTaken_of_recessive (w : BitVec 169) (c : Time) (h : charStop w = true) :
    (s.characterTaken w c).trunk.receiver = .hunting ∧
    (s.characterTaken w c).peers = { s.peers with queue := (s.characterTaken w c).peers.queue } := by
  rw [State.characterTaken, State.takeCharacter, if_pos h]
  dsimp only
  split
  · rw [State.headCharacter_trunk]; exact ⟨rfl, by simp⟩
  · obtain ⟨htrunk, hpeers⟩ := State.bodyCharacter_kept _ (charData w)
    rw [htrunk]
    exact ⟨rfl, hpeers⟩

/-- The transmitter hears of a character only while it sends. -/
theorem State.ownCharacter_of_notSending (h : ∀ f r, s.trunk.tx ≠ .sending f r) : s.ownCharacter = s := by
  unfold State.ownCharacter
  split
  next f r htx => exact absurd htx (h f r)
  next => rfl
  next => rfl

theorem State.characterTaken_notSending (w : BitVec 169) (c : Time) (h : ∀ f r, s.trunk.tx ≠ .sending f r) :
    (s.characterTaken w c).ownCharacter = s.characterTaken w c := by
  apply State.ownCharacter_of_notSending
  rw [(s.characterTaken_attempt w c).1]
  exact h

/-- While the station does not send, a character is taken and that is all. -/
theorem exec_characterReceived_takes {w : BitVec 169} {c : Time} (h : s.takesCharacter w c) :
    exec (.characterReceived w) s = .next (s.characterTaken w c) := by
  obtain ⟨hset, ⟨n, hr⟩, hstart, htx⟩ := h
  rw [exec_characterReceived_equal s w hset hr hstart (s.readsBackEqual_of_notSending w htx),
    s.characterTaken_notSending w c htx]

/-! ### A character by its stop bit, its marker and the assembler (R29, R33, R34) -/

/-- The part after a character's samples, with this receiver, assembler and counters of the trunk controller. -/
def State.afterSamples (w : BitVec 169) (r : Receiver) (a : Assembler) (n : LinkCounters) : State :=
  { s with trunk := s.trunk.after w r a n }

theorem State.characterTaken_of_dominant (w : BitVec 169) (c : Time) (h : charStop w = false) :
    s.characterTaken w c = s.afterSamples w .waitRecessive s.trunk.assembler.framingError
      { s.trunk.counters with framingErrors := s.trunk.counters.framingErrors.increase } := by
  rw [State.characterTaken, State.takeCharacter, h]
  rfl

theorem State.characterTaken_of_head (w : BitVec 169) (c : Time) (hs : charStop w = true) (hm : charMarker w = true) :
    s.characterTaken w c =
      (s.afterSamples w .hunting s.trunk.assembler s.trunk.counters).headCharacter (charData w) c := by
  rw [State.characterTaken, State.takeCharacter, if_pos hs]
  exact if_pos hm

theorem State.characterTaken_of_body (w : BitVec 169) (c : Time) (hs : charStop w = true) (hm : charMarker w = false) :
    s.characterTaken w c =
      (s.afterSamples w .hunting s.trunk.assembler s.trunk.counters).bodyCharacter (charData w) := by
  rw [State.characterTaken, State.takeCharacter, if_pos hs]
  exact if_neg (by simp [hm])

/-- A body character once the body is full is the check character. -/
theorem State.characterTaken_of_check (w : BitVec 169) (c : Time) {a : Assembly} (hs : charStop w = true)
    (hm : charMarker w = false) (ha : s.trunk.assembler = .assembling a) (hl : a.body.length = a.kind.bodyLength) :
    s.characterTaken w c =
      (s.afterSamples w .hunting s.trunk.assembler s.trunk.counters).checkCharacter a (charData w) := by
  rw [s.characterTaken_of_body w c hs hm, State.bodyCharacter]
  simp only [State.afterSamples, Trunk.after, ha, hl, lt_irrefl, if_false]

theorem FrameKind.ofCode_of_odd (n : Nat) (h : n % 2 = 1) : FrameKind.ofCode n = none := by
  unfold FrameKind.ofCode
  split
  any_goals omega
  rfl

/-! ### The assembler's statements -/

/-- Settles O22: a head character by its kind code, a body character by the assembler's state. -/
theorem charactersAreAssembled : Obligations.CharactersAreAssembled := by
  refine ⟨fun s w c h hs hm => ⟨fun k hk a ha => ?_, fun hodd a ha => ?_⟩, fun s w c h hs hm =>
    ⟨fun ha => ?_, fun ha => ?_, fun a ha hl => ?_⟩⟩
  · rw [exec_characterReceived_takes s h, s.characterTaken_of_head w c hs hm, State.headCharacter,
      State.dropTruncated_eq, hk, ← ha]
    rfl
  · have hk : FrameKind.ofCode ((charData w).toNat % 16) = none := FrameKind.ofCode_of_odd _ (by omega)
    rw [exec_characterReceived_takes s h, s.characterTaken_of_head w c hs hm, State.headCharacter,
      State.dropTruncated_eq, hk, ← ha]
    simp only [State.afterSamples, Trunk.after, State.mapLink, State.mapTrunk]
    cases s.trunk.assembler <;> rfl
  · rw [exec_characterReceived_takes s h, s.characterTaken_of_body w c hs hm, ha]
    rfl
  · rw [exec_characterReceived_takes s h, s.characterTaken_of_body w c hs hm, ha]
    rfl
  · rw [exec_characterReceived_takes s h, s.characterTaken_of_body w c hs hm, ha]
    simp only [State.bodyCharacter, State.afterSamples, Trunk.after, hl, if_true]
    rfl

theorem Assembler.framingError_eq (a : Assembler) :
    a.framingError = if a = .discarding then .discarding else .noFrame := by
  cases a <;> rfl

/-- What the transmitter does at a character leaves the rest of the trunk controller. -/
theorem State.ownCharacter_trunk : s.ownCharacter.trunk = { s.trunk with
    tx := s.ownCharacter.trunk.tx, own := s.ownCharacter.trunk.own } := by
  unfold State.ownCharacter
  split
  · split
    · split
      · simp
      · rfl
    · rfl
  · rfl
  · rfl

/-- Settles O23: a dominant stop bit is counted whatever the transmitter makes of the character. -/
theorem framingErrorsCountOnce : Obligations.FramingErrorsCountOnce := by
  refine ⟨fun s w n c h hr hstart hstop hread => ?_, fun s h hr hp => ⟨fun w => ?_, ?_⟩⟩
  · refine ⟨_, exec_characterReceived_equal s w h hr hstart hread, ?_⟩
    have hnot := s.characterTaken_notSending w c
    rw [s.characterTaken_of_dominant w c hstop, Assembler.framingError_eq] at hnot ⊢
    refine ⟨by simp [State.afterSamples], State.ownCharacter_trunk _, fun htx => ?_⟩
    rw [hnot htx]
    rfl
  · rw [exec_characterReceived, carryOut_of_not s _ _ h (by simp [hr, Receiver.inside])]
  · have hout : ∀ n c, s.trunk.receiver ≠ .inChar n c := by simp [hr]
    have hexec : exec .receiverHuntsAgain s = .next (s.mapTrunk Trunk.rise) := by
      rw [exec_receiverHuntsAgain, carryOut_of s _ _ h (by simp [State.mayRise, s.lineQuiet_of hp hout, hr])]
    refine ⟨_, hexec, ?_, rfl⟩
    simp [Trunk.rise, Receiver.rise, hr]

end Sys2Proof.Machine

/-! ## What the requesting blocks are told (R71, R114, R146, R151, R157, R178, R198) -/

namespace Sys2Proof.Machine

variable (s : State)

/-! ### Outcomes in the terms of the statements -/

theorem Event.outcomeOf_eq (e : Event) (j : AlertKind) : e.outcomeOf j = e.outcome j := by cases j <;> rfl

theorem Event.withOutcome_eq (e : Event) (j : AlertKind) (o : AlertOutcome) : e.withOutcome j o = e.setOutcome j o := by
  cases j <;> rfl

theorem AlertCounters.increased_eq (c : AlertCounters) (j : AlertKind) (o : AlertOutcome) :
    c.increased j o = c.count j o := by
  cases j <;> cases o <;> rfl

theorem AlertOutcome.final_eq_true_iff (o : AlertOutcome) :
    o.final = true ↔ o = .sent ∨ o = .yielded ∨ o = .lapsed := by
  cases o <;> simp [AlertOutcome.final]

/-! ### The alert unit -/

/-- Setting the outcome of a record that the list does not hold changes nothing. -/
theorem State.setOutcome_of_absent (j : AlertKind) (n : BitVec 8) (o : AlertOutcome) (h : s.event n = none) :
    s.setOutcome j n o = s := by
  have hne : ∀ e ∈ s.co.events, ¬(e.serial == n) = true := by simpa [State.event] using h
  have hmap : s.co.events.map (fun e => if e.serial == n then e.setOutcome j o else e) = s.co.events :=
    (List.map_congr_left fun e he => if_neg (hne e he)).trans (List.map_id _)
  simp only [State.setOutcome, State.updateEvent, hmap]

/-- An outcome not yet final is set in the record, where the list holds one, and counted. -/
theorem State.resolve_of_open (j : AlertKind) (n : BitVec 8) (o : AlertOutcome)
    (h : ∀ e, s.event n = some e → (e.outcome j).final = false) :
    s.resolve j n o = (s.setOutcome j n o).countOutcome j o := by
  unfold State.resolve
  cases he : s.event n with
  | some e => simp [h e he]
  | none => rw [s.setOutcome_of_absent j n o he]

theorem State.resolve_of_final (j : AlertKind) (n : BitVec 8) (o : AlertOutcome) (e : Event)
    (he : s.event n = some e) (h : (e.outcome j).final = true) : s.resolve j n o = s := by
  simp [State.resolve, he, h]

/-- Resolving an outcome changes, of the coincidence unit, the records alone. -/
theorem State.resolve_co (j : AlertKind) (n : BitVec 8) (o : AlertOutcome) :
    (s.resolve j n o).co = { s.co with events := (s.resolve j n o).co.events } := by
  unfold State.resolve
  split
  · rfl
  · split <;> rfl

/-- A final report on a tracked request ends its tracking and resolves its outcome, and a SENT raise is handed on. -/
theorem State.reportAlert_of_tracked (j : AlertKind) (n : BitVec 8) (o : SendOutcome) {x : Tracking} {u : State}
    (h : s.trackingOf j n = some x) (hu : (s.untrack j n).resolve j n (reportedOutcome x.cause o) = u) :
    s.reportAlert j n o = { u with co := { u.co with
      waiting := if j = .raise ∧ o = .sent then u.co.waiting ++ [.raiseSent n] else u.co.waiting } } := by
  simp only [State.reportAlert, h, hu]
  cases j <;> cases o <;> rfl

theorem reportedOutcome_withdrawn (cause : Cause) :
    reportedOutcome cause .withdrawn = if cause = .yield then .yielded else .lapsed := by
  cases cause <;> rfl

theorem State.reportAlert_told (j : AlertKind) (n : BitVec 8) (o : SendOutcome) :
    s.alertTold (s.reportAlert j n o) j n o := by
  intro x out hx hout
  have hrep : reportedOutcome x.cause o = out := by
    rw [hout]
    cases o with
    | withdrawn => exact reportedOutcome_withdrawn x.cause
    | sent => rfl
    | superseded => rfl
    | expired => rfl
  rw [s.reportAlert_of_tracked j n o hx rfl, hrep]
  refine ⟨fun hopen => ?_, fun e he hfinal => ?_, ?_⟩
  · have hnot : ∀ e, (s.untrack j n).event n = some e → (e.outcome j).final = false := by
      intro e he
      obtain ⟨hsent, hyielded, hlapsed⟩ := hopen e he
      rw [Bool.eq_false_iff, ne_eq, AlertOutcome.final_eq_true_iff, ← Event.outcomeOf_eq]
      simp [hsent, hyielded, hlapsed]
    rw [(s.untrack j n).resolve_of_open j n out hnot, AlertCounters.increased_eq]
    refine ⟨rfl, ?_⟩
    simp only [Event.withOutcome_eq]
    simp [State.countOutcome, State.setOutcome, State.updateEvent, State.untrack]
  · rw [(s.untrack j n).resolve_of_final j n out e he (by rwa [AlertOutcome.final_eq_true_iff, ← Event.outcomeOf_eq])]
    exact ⟨rfl, rfl⟩
  · rw [State.resolve_co]
    rfl

/-! ### Every block -/

/-- The detector takes no report but that a request of its own was superseded (R114). -/
theorem State.report_detector (k : TxKind) (ref : Ref) (o : SendOutcome) (h : o ≠ .superseded) :
    (s.report k ref o).detector = s.detector := by
  obtain ⟨_, _, hother, _⟩ := s.report_other k ref o
  by_cases honset : k = .onset
  · subst honset
    cases o with
    | superseded => exact absurd rfl h
    | _ => rfl
  by_cases hcoda : k = .coda
  · subst hcoda
    cases o with
    | superseded => exact absurd rfl h
    | _ => rfl
  exact hother honset hcoda

/-- A report tells the block that made the request. -/
theorem State.report_told (k : TxKind) (ref : Ref) (o : SendOutcome) : s.told (s.report k ref o) k ref o := by
  obtain ⟨hheat, hreply, hdetector, halert⟩ := s.report_other k ref o
  refine ⟨fun j n hk href _ => ?_, fun h1 h2 => (halert h1 h2).symm, fun n hk href => ?_, hheat, fun hk ho => ?_,
    hreply, fun hk ho => ?_, fun hk ho => ?_, fun h => ?_⟩
  · subst href
    cases j <;> subst hk <;> exact s.reportAlert_told _ n o
  · subst hk href
    cases o <;> rfl
  · subst hk
    cases o with
    | withdrawn => exact absurd rfl ho
    | sent => rfl
    | superseded => rfl
    | expired => rfl
  · subst hk ho
    rfl
  · subst hk ho
    rfl
  · rcases h with ⟨h1, h2⟩ | ho
    · exact hdetector h1 h2
    · exact s.report_detector k ref o ho

/-- A request that leaves is told to the block that made it. -/
theorem State.leave_told (k : TxKind) (r : Request) (o : SendOutcome) : s.told (s.leave k r o) k r.ref o :=
  State.report_told { s with sched := { s.sched with
    history := ((⟨k, r.time, r.capture, r.attempts, o⟩ : HistoryRecord) :: s.sched.history).take 8 } } k r.ref o

/-- A request that leaves changes the scheduler and the requesting blocks alone. -/
theorem State.leave_eq (k : TxKind) (r : Request) (o : SendOutcome) : s.leave k r o = { s with
    sched := (s.leave k r o).sched, co := (s.leave k r o).co, alerts := (s.leave k r o).alerts
    heater := (s.leave k r o).heater, service := (s.leave k r o).service, detector := (s.leave k r o).detector } := by
  have hframe := s.leave_frame k r o
  generalize s.leave k r o = t at hframe
  cases t
  simp_all

theorem State.leave_detector (k : TxKind) (r : Request) (o : SendOutcome) (h : o ≠ .superseded) :
    (s.leave k r o).detector = s.detector :=
  State.report_detector _ k r.ref o h

end Sys2Proof.Machine

/-! ## The check character (R34, R36, R38, R41, R67) -/

namespace Sys2Proof.Machine

variable (s : State)

/-! ### Equal to the running check, or different -/

theorem State.checkCharacter_of_equal (f : Assembly) (x : Byte) (h : x = f.check) (ho : s.trunk.own = false) :
    s.checkCharacter f x = ({ s with trunk := { s.trunk with assembler := .noFrame } } : State).deliver f := by
  rw [State.checkCharacter, if_pos h]
  exact if_neg (by simp [ho])

theorem State.checkCharacter_of_own (f : Assembly) (x : Byte) (h : x = f.check) (ho : s.trunk.own = true) :
    s.checkCharacter f x = { s with trunk := { s.trunk with assembler := .noFrame } } := by
  rw [State.checkCharacter, if_pos h]
  exact if_pos ho

theorem State.checkCharacter_of_different (f : Assembly) (x : Byte) (h : x ≠ f.check) :
    s.checkCharacter f x = { s with trunk := { s.trunk with
      assembler := .noFrame
      counters := { s.trunk.counters with checkFailures := s.trunk.counters.checkFailures.increase } } } := by
  rw [State.checkCharacter, if_neg h]
  rfl

/-! ### A character of this station's frame -/

theorem TxRun.taken_eq (run : TxRun) :
    run.taken = { run with position := 16 * (11 * run.chars + 10) + 8, chars := run.chars + 1 } := by
  have hpos : 176 * run.chars + 168 = 16 * (11 * run.chars + 10) + 8 := by omega
  rw [TxRun.taken, hpos]

theorem State.ownCharacter_of_earlier {f : TxFrame} {run : TxRun} (ho : s.trunk.own = true)
    (htx : s.trunk.tx = .sending f run) (h : run.chars + 1 < f.characters) :
    s.ownCharacter = s.mapTrunk (fun t => { t with tx := .sending f run.taken }) := by
  simp only [State.ownCharacter, htx, ho, if_true, not_le.mpr h, if_false]

theorem State.ownCharacter_of_last {f : TxFrame} {run : TxRun} (ho : s.trunk.own = true)
    (htx : s.trunk.tx = .sending f run) (h : f.characters ≤ run.chars + 1) :
    s.ownCharacter = (s.mapTrunk (fun t => { t with tx := .idle, own := false })).reportSent f.kind := by
  simp only [State.ownCharacter, htx, ho, if_true, h]

/-- A frame that was sent leaves its slot, to a waiting request where there is one. -/
theorem State.reportSent_of_inFlight (k : TxKind) {r : Request} {next : Option Request}
    (h : s.sched.slots.get k = .inFlight r next) :
    s.reportSent k = (s.setSlot k (slotAfter next)).leave k r .sent := by
  simp only [State.reportSent, h]

/-- The part after the last character of this station's frame, before the request that was sent leaves: the attempt has
ended, and the slot holds what is left in it. -/
def State.afterOwnFrame (w : BitVec 169) (k : TxKind) (left : Slot) : State :=
  { s with
    trunk := { s.trunk.after w .hunting .noFrame s.trunk.counters with tx := .idle, own := false }
    sched := { s.sched with slots := s.sched.slots.set k left } }

/-- The check character of this station's frame, equal to the running check, ends the attempt. -/
theorem State.characterTaken_sent (w : BitVec 169) (c : Time) {a : Assembly} {f : TxFrame} {run : TxRun}
    {r : Request} {next : Option Request} (hs : charStop w = true) (hm : charMarker w = false)
    (ha : s.trunk.assembler = .assembling a) (hl : a.body.length = a.kind.bodyLength) (hc : charData w = a.check)
    (ho : s.trunk.own = true) (htx : s.trunk.tx = .sending f run) (hf : f.characters ≤ run.chars + 1)
    (hslot : s.sched.slots.get f.kind = .inFlight r next) :
    (s.characterTaken w c).ownCharacter = (s.afterOwnFrame w f.kind (slotAfter next)).leave f.kind r .sent := by
  have hcheck : s.characterTaken w c = s.afterSamples w .hunting .noFrame s.trunk.counters :=
    (s.characterTaken_of_check w c hs hm ha hl).trans (State.checkCharacter_of_own _ a _ hc ho)
  rw [hcheck, (s.afterSamples w .hunting .noFrame s.trunk.counters).ownCharacter_of_last ho htx hf]
  exact State.reportSent_of_inFlight _ f.kind hslot

/-- Settles O24: the branches of the check character, and the report of a frame sent. -/
theorem completeFramesAreTaken : Obligations.CompleteFramesAreTaken := by
  refine ⟨fun s w c a h hs hm ha hl ho => ?_, fun s w n c f run h hr hstart hread ho htx => ⟨fun hf => ?_,
    fun a r next hs hm ha hl hc hf hslot => ?_⟩⟩
  · have hcheck := s.characterTaken_of_check w c hs hm ha hl
    have hequal (hc : charData w = a.check) :
        s.characterTaken w c = (s.afterSamples w .hunting .noFrame s.trunk.counters).deliver a :=
      hcheck.trans (State.checkCharacter_of_equal _ a _ hc ho)
    rw [exec_characterReceived_takes s h]
    refine ⟨fun hc hq => ?_, fun hc hq => ?_, fun hc => ?_⟩
    · rw [hequal hc]
      exact congrArg _ (if_pos hq)
    · rw [hequal hc]
      exact congrArg _ (if_neg (not_lt.mpr hq))
    · rw [hcheck, State.checkCharacter_of_different _ a _ hc]
      rfl
  · obtain ⟨htx', ho', _⟩ := s.characterTaken_attempt w c
    refine ⟨_, exec_characterReceived_equal s w h hr hstart hread, ?_⟩
    rw [State.ownCharacter_of_earlier _ (ho'.trans ho) (htx'.trans htx) hf, TxRun.taken_eq]
    exact ⟨by simp [State.characterTaken], rfl⟩
  · have hexec := exec_characterReceived_equal s w h hr hstart hread
    rw [s.characterTaken_sent w c hs hm ha hl hc ho htx hf hslot] at hexec
    refine ⟨_, hexec, ?_⟩
    have hframe := (s.afterOwnFrame w f.kind (slotAfter next)).leave_eq f.kind r .sent
    rw [State.leave_detector _ f.kind r .sent (by decide)] at hframe
    have hslots := s.sched.slots.get_set_self f.kind (slotAfter next)
    refine ⟨by simp [State.afterOwnFrame], ?_, fun k hk => ?_, by simp [State.afterOwnFrame],
      (s.afterOwnFrame w f.kind (slotAfter next)).leave_told f.kind r .sent, ?_⟩
    · rw [State.leave_sched]
      cases next <;> exact hslots
    · rw [State.leave_sched]
      exact s.sched.slots.get_set_other k f.kind _ hk
    · generalize State.leave _ f.kind r .sent = t at hframe ⊢
      rw [hframe]
      rfl

end Sys2Proof.Machine

/-! ## The transmitter: choice, start and the end of an attempt (R37 to R40, R49, R63, R65, R66, R68) -/

namespace Sys2Proof.Machine

variable (s : State)

/-! ### A frame that goes back to its slot (R68) -/

/-- A frame that no mark, no waiting request and no deadline takes away is READY again. -/
theorem State.returned_of_ready (k : TxKind) (lost : Bool) {r : Request} (h : s.sched.slots.get k = .inFlight r none)
    (hm : r.mark = false) (hd : r.deadline = none) : s.returned k lost =
      s.setSlot k (.ready (if lost then { r with attempts := min (r.attempts + 1) 255 } else r)) := by
  rw [s.returned_eq k r none lost h]
  cases lost <;> simp [hm, hd, Request.expired]

/-! ### An attempt that ends (R39, R40, R49) -/

/-- The part after an arbitration loss of this attempt, before the frame returns to its slot. -/
def State.afterLoss (run : TxRun) : State :=
  { s with
    trunk := { s.trunk with
      tx := .idle, own := false
      counters := if 1 ≤ run.chars then { s.trunk.counters with
          losses := s.trunk.counters.losses.increase, conflicts := s.trunk.counters.conflicts.increase }
        else { s.trunk.counters with losses := s.trunk.counters.losses.increase } }
    peers := if 1 ≤ run.chars then { s.peers with conflictTimer := 600, conflict := true } else s.peers }

theorem State.afterLoss_counters (run : TxRun) :
    (s.afterLoss run).trunk.counters.losses = s.trunk.counters.losses.increase ∧
    (s.afterLoss run).trunk.counters.framingErrors = s.trunk.counters.framingErrors := by
  unfold State.afterLoss
  dsimp only
  split <;> exact ⟨rfl, rfl⟩

theorem State.loseArbitration_eq {f : TxFrame} {run : TxRun} (htx : s.trunk.tx = .sending f run) :
    s.loseArbitration = (s.afterLoss run).returned f.kind true := by
  simp only [State.loseArbitration, htx, State.afterLoss]
  by_cases hc : 1 ≤ run.chars
  · simp only [hc, if_true]
    rfl
  · simp only [hc, if_false]
    rfl

theorem State.loseArbitration_of_ready {f : TxFrame} {run : TxRun} {r : Request} (htx : s.trunk.tx = .sending f run)
    (h : s.sched.slots.get f.kind = .inFlight r none) (hm : r.mark = false) (hd : r.deadline = none) :
    s.loseArbitration =
      (s.afterLoss run).setSlot f.kind (.ready { r with attempts := min (r.attempts + 1) 255 }) := by
  rw [s.loseArbitration_eq htx]
  exact (s.afterLoss run).returned_of_ready f.kind true h hm hd

theorem State.faultDrive_of_ready {f : TxFrame} {run : TxRun} {r : Request} {t : State}
    (htx : s.trunk.tx = .sending f run) (h : s.sched.slots.get f.kind = .inFlight r none) (hm : r.mark = false)
    (hd : r.deadline = none) (ht : s.faultedDrive t f r) : s.faultDrive = t := by
  simp only [State.faultDrive, htx]
  rw [ht]
  exact State.returned_of_ready _ f.kind true h hm hd

/-- TRUNK is held through the sample of a drive fault and released from the next (R40). -/
theorem State.faultedDrive_trunkDriven {f : TxFrame} {r : Request} {t : State} (h : s.faultedDrive t f r) :
    t.trunkDriven = true ∧ ({ t with trunk := t.trunk.sample } : State).trunkDriven = false := by
  rw [h]
  exact ⟨rfl, rfl⟩

/-! ### The read-back of an attempt (R38) -/

/-- The first bit time that reads otherwise than it was sent decides what the character shows. -/
theorem State.characterReadBack_of_first (w : BitVec 169) {f : TxFrame} {run : TxRun} {k : Nat}
    (htx : s.trunk.tx = .sending f run) (hk : k < 11)
    (heq : ∀ j, j < k → w.getLsbD (16 * j + 7) = s.sentLevel f run (11 * run.chars + j))
    (hne : w.getLsbD (16 * k + 7) ≠ s.sentLevel f run (11 * run.chars + k)) :
    s.characterReadBack w = if s.sentLevel f run (11 * run.chars + k) then .lost else .failed := by
  simp only [State.characterReadBack, htx]
  exact readBackFrom_first (fun k => s.sentLevel f run (11 * run.chars + k)) w k 11 hk heq hne

theorem exec_characterReceived_inside (w : BitVec 169) {n : Nat} {c : Time} (h : s.isSettled = true)
    (hr : s.trunk.receiver = .inChar n c) : exec (.characterReceived w) s = .next (s.readCharacter w) := by
  rw [exec_characterReceived, carryOut_of s _ _ h (by simp [hr, Receiver.inside])]

/-- A lost attempt leaves the receiver in its character, which is taken; nothing of it is this station's. -/
theorem State.receiveCharacter_lost (w : BitVec 169) {n : Nat} {c : Time} (hr : s.trunk.receiver = .inChar n c)
    (htx : s.trunk.tx = .idle) : s.receiveCharacter w = s.characterTaken w c := by
  rw [s.receiveCharacter_of_inside w hr, s.characterTaken_notSending w c (by simp [htx])]

/-- Settles O25: the two ends of an attempt, reported at their sample or found in a character. -/
theorem attemptsAreLost : Obligations.AttemptsAreLost := by
  intro s f run r peers slots h htx hslot hm hd hpeers hslots
  subst hpeers hslots
  have hdominant := s.sendsDominant_of_sending htx
  have hback (hpos : run.position % 16 = 7) : s.atReadBack = true := by simp [State.atReadBack, htx, hpos]
  have hlost := s.loseArbitration_of_ready htx hslot hm hd
  refine ⟨fun hpos hlevel => ?_, fun t ht => ?_, fun n c w k hr hk heq hsent hread => ?_⟩
  · rw [exec_arbitrationLoss, carryOut_of s _ _ h (by simp [hback hpos, hdominant, hlevel]), hlost]
    rfl
  · have hfault := s.faultDrive_of_ready htx hslot hm hd ht
    refine ⟨fun hpos hlevel => ?_, fun n c hr => ⟨fun hlevel => ?_, fun w k hk heq hsent hread => ?_⟩,
      s.faultedDrive_trunkDriven ht⟩
    · rw [exec_driveFault, carryOut_of s _ _ h (by simp [hback hpos, hdominant, hlevel]), hfault]
    · rw [exec_glitch, carryOut_of s _ _ h (by simp [hr, Receiver.inside]), State.takeGlitch, hdominant, hlevel,
        ← hfault]
      rfl
    · have hshown : s.characterReadBack w = .failed := by
        rw [s.characterReadBack_of_first w htx hk heq (by simp [hsent, hread]), hsent]
        rfl
      rw [exec_characterReceived_inside s w h hr, s.readCharacter_eq, if_pos hshown, hfault]
  · have hshown : s.characterReadBack w = .lost := by
      rw [s.characterReadBack_of_first w htx hk heq (by simp [hsent, hread]), hsent]
      rfl
    have hexec : exec (.characterReceived w) s = .next (s.loseArbitration.characterTaken w c) := by
      rw [exec_characterReceived_inside s w h hr, s.readCharacter_eq, hshown, if_neg (by decide), if_pos rfl,
        State.receiveCharacter_lost _ w (n := n) (c := c) (by rw [hlost]; exact hr) (by rw [hlost]; rfl)]
    refine ⟨_, hexec, ?_⟩
    obtain ⟨htx', hown', hlosses'⟩ := s.loseArbitration.characterTaken_attempt w c
    obtain ⟨hlosses, hframing⟩ := s.afterLoss_counters run
    have hdom := s.loseArbitration.characterTaken_of_dominant w c
    have hrec := s.loseArbitration.characterTaken_of_recessive w c
    have hsched : (s.loseArbitration.characterTaken w c).sched = s.loseArbitration.sched := by
      simp [State.characterTaken]
    generalize s.loseArbitration.characterTaken w c = t at *
    rw [hlost] at htx' hown' hlosses' hdom hrec hsched
    refine ⟨htx', hown', hlosses'.trans hlosses, fun hstop => ?_, fun hstop => ?_, hsched⟩
    · rw [hdom hstop]
      exact ⟨congrArg LinkCounter.increase hframing, rfl, rfl⟩
    · obtain ⟨hreceiver, hpeers'⟩ := hrec hstop
      rw [hpeers']
      exact ⟨hreceiver, rfl, rfl, rfl⟩

/-! ### The choice and the start (R37, R63, R65, R66) -/

/-- The first element of a list for which a function answers, given that none before it does. -/
theorem findSome?_of_first {α β : Type} [DecidableEq α] (l : List α) (f : α → Option β) (a : α) (b : β) (ha : a ∈ l)
    (hf : f a = some b) (h : ∀ x, l.idxOf x < l.idxOf a → f x = none) : l.findSome? f = some b := by
  induction l with
  | nil => cases ha
  | cons y l ih =>
    by_cases hy : y = a
    · rw [List.findSome?_cons, hy, hf]
    · have hbefore : f y = none := h y (by simp [List.idxOf_cons_ne _ hy])
      have hrest : a ∈ l := (List.mem_cons.mp ha).resolve_left (Ne.symm hy)
      rw [List.findSome?_cons, hbefore]
      refine ih hrest fun x hx => ?_
      by_cases hxy : y = x
      · rw [← hxy]; exact hbefore
      · exact h x (by rw [List.idxOf_cons_ne _ hxy, List.idxOf_cons_ne _ hy]; omega)

theorem Slots.chosen_of_first (x : Slots) {k : TxKind} {r : Request} (h : x.get k = .ready r)
    (hfirst : ∀ j q, txPriority.idxOf j < txPriority.idxOf k → x.get j ≠ .ready q) : x.chosen = some (k, r) := by
  refine findSome?_of_first txPriority _ k (k, r) (by cases k <;> decide) (by rw [h]; rfl) fun j hj => ?_
  cases hslot : x.get j with
  | ready q => exact absurd hslot (hfirst j q hj)
  | empty => rfl
  | inFlight q w => rfl

/-- Settles O27: the first READY slot in the order of priority, and the two ends of a hand-over. -/
theorem framesAreChosenAndBegun : Obligations.FramesAreChosenAndBegun := by
  refine ⟨fun s k r order h hp hl htx hslot horder hfirst => ?_, fun s f r w h hslot =>
    ⟨fun htx => ?_, fun htx hm hw hd => ?_⟩⟩
  · subst horder
    have hchosen : s.sched.slots.chosen = some (k, r) := s.sched.slots.chosen_of_first hslot hfirst
    have hdue : s.choiceDue = true := by simp [State.choiceDue, State.mayChoose, State.isRunning, hp, hl, htx, hchosen]
    rw [exec_choice, carryOut_of s _ _ h hdue, State.choose, hchosen]
    rfl
  · rw [exec_txStart, carryOut_of s _ _ h (by simp [State.startReached, htx])]
    simp only [State.startSending, htx, State.reportBegun, State.mapTrunk, hslot]
    rfl
  · subst hw
    rw [exec_txStart, carryOut_of s _ _ h (by simp [State.startReached, htx])]
    simp only [State.startSending, htx, if_true]
    exact congrArg _ (State.returned_of_ready _ f.kind false hslot hm hd)

end Sys2Proof.Machine

/-! ## The inbound queue: the filter, and the frames that write a row (R46 to R49, R51, R55, R57 to R59, R121) -/

namespace Sys2Proof.Machine

variable (s : State)

/-! ### An entry that is taken (R46, R48) -/

/-- What the command of a kind does with an entry that passes the filter. -/
def FrameKind.apply : FrameKind → InEntry → State → State
  | .alert => State.applyAlert
  | .alertRaise => State.applyRaise
  | .onset => State.applyOnset
  | .coda => State.applyCoda
  | .beacon => State.applyBeacon
  | .heat => State.applyHeat
  | .reply => fun _ s => s
  | .query => State.applyQuery

/-- The state with the oldest entry taken off its queue. -/
def State.entryTaken (rest : List InEntry) : State := { s with peers := { s.peers with queue := rest } }

/-- The commands of the eight kinds take the oldest entry in one and the same way. -/
theorem exec_inbound_eq (k : FrameKind) :
    exec k.instr s = carryOut (fun s => s.entryReady k) (fun s => s.inbound k.apply) s := by
  cases k <;> rfl

theorem exec_inbound {e : InEntry} {rest : List InEntry} (h : s.takesEntry e rest) :
    exec e.kind.instr s = .next (s.inbound e.kind.apply) := by
  obtain ⟨hs, hr, hh, hq⟩ := h
  rw [exec_inbound_eq, carryOut_of s _ _ hs (s.entryReady_of e rest hr hh hq)]

theorem exec_inbound_applies {e : InEntry} {rest : List InEntry} (h : s.takesEntry e rest)
    (hf : filterEntry s.own s.profile.peerSet e = .applies) :
    exec e.kind.instr s = .next (e.kind.apply e (s.entryTaken rest)) := by
  obtain ⟨-, -, -, hq⟩ := id h
  rw [exec_inbound s h, s.inbound_eq e rest _ hq, hf]
  rfl

/-- An entry that passes is applied by the command of its kind. -/
theorem exec_inbound_passes {e : InEntry} {rest : List InEntry} {k : FrameKind} (h : s.takesEntry e rest)
    (hp : s.passes e) (hk : e.kind = k) : exec k.instr s = .next (k.apply e (s.entryTaken rest)) := by
  subst hk
  exact exec_inbound_applies s h (filterEntry_of_passes s e hp)

/-! ### The tests of the filter (R48) -/

theorem filterEntry_own {own : Station} (set : BitVec 14) {e : InEntry} (h : e.sender.toNat = own.val) :
    filterEntry own set e = .conflict := by simp [filterEntry, h]

theorem filterEntry_noStation {own : Station} (set : BitVec 14) {e : InEntry} (h : 14 ≤ e.sender.toNat) :
    filterEntry own set e = if e.kind = .query then .applies else .discard := by
  have hne : e.sender.toNat ≠ own.val := by omega
  simp [filterEntry, hne, h]

theorem filterEntry_otherStation {own : Station} (set : BitVec 14) {e : InEntry} (h : e.sender.toNat < 14)
    (hne : e.sender.toNat ≠ own.val) :
    filterEntry own set e = if set.getLsbD e.sender.toNat ∨ e.kind.isAlert then .applies else .outside := by
  simp only [filterEntry, hne, if_false, show ¬ 14 ≤ e.sender.toNat by omega]
  cases set.getLsbD e.sender.toNat <;> simp

theorem FrameKind.isAlert_eq_false {k : FrameKind} (ha : k ≠ .alert) (hr : k ≠ .alertRaise) : k.isAlert = false := by
  cases k with
  | alert => exact absurd rfl ha
  | alertRaise => exact absurd rfl hr
  | _ => rfl

/-- An alert of another station passes, whether or not the peer set has its sender (R48, test 5). -/
theorem exec_inbound_alert {e : InEntry} {rest : List InEntry} {k : FrameKind} (h : s.takesEntry e rest)
    (hlt : e.sender.toNat < 14) (hne : e.sender.toNat ≠ s.loader.station.val) (hk : e.kind = k)
    (ha : k.isAlert = true) : exec k.instr s = .next (k.apply e (s.entryTaken rest)) := by
  subst hk
  exact exec_inbound_applies s h (by rw [filterEntry_otherStation _ hlt hne, if_pos (.inr ha)])

/-- Settles O31: one case for each answer of the filter, then the two alerts. -/
theorem framesAreFilteredAndHandedOn : Obligations.FramesAreFilteredAndHandedOn := by
  refine ⟨fun s e rest h => ?_, fun s e rest h hlt hne =>
    ⟨fun hk => exec_inbound_alert s h hlt hne hk rfl, fun hk => exec_inbound_alert s h hlt hne hk rfl⟩⟩
  obtain ⟨-, -, -, hq⟩ := id h
  have htaken := exec_inbound s h
  rw [s.inbound_eq e rest _ hq] at htaken
  refine ⟨fun hown => ?_, fun habsent hk => ?_, fun hlt hne hset ha hr => ?_,
    fun hp hk => exec_inbound_passes s h hp hk⟩
  · rw [htaken, filterEntry_own _ hown]
    rfl
  · rw [htaken, filterEntry_noStation _ habsent, if_neg hk]
    rfl
  · rw [htaken, filterEntry_otherStation _ hlt hne,
      if_neg (by simp [hset, FrameKind.isAlert_eq_false ha hr])]
    rfl

/-! ### BEACON and HEAT (R51, R58) -/

/-- Settles O32: a clock that does not steer by peers leaves the re-examination without effect. -/
theorem beaconsAndHeatsWriteTheirRow : Obligations.BeaconsAndHeatsWriteTheirRow := by
  intro s e rest n x h hp hn hx
  refine ⟨fun hk hclock => ?_, fun hk => ?_⟩
  · obtain ⟨hidle, -, -⟩ := (s.withTimePart rest n e.timePart).reexamine_spec
    rw [exec_inboundBeacon_passes s h hp hn hk, hidle hclock]
  · refine (exec_inbound_passes s h hp hk).trans ?_
    rw [hx]
    simp only [FrameKind.apply, State.applyHeat, e.row_of n hn]
    rfl

/-! ### ONSET and CODA (R55, R57) -/

theorem Time.inSecond_iff (t : Time) : t.inSecond = true ↔ t.sub < 10000000 := by
  simp [Time.inSecond, secondCycles]

theorem State.pastSpan_iff (t : Time) :
    s.pastSpan t = true ↔ 10000000 * (s.loader.profile.E : Int) < s.clock.time.diff t := by
  simp [State.pastSpan, secondCycles]

theorem Row.hasOnset_iff (r : Row) (t : Time) : r.hasOnset t = true ↔ ∃ q, r.trigger = some q ∧ q.onset = t := by
  cases h : r.trigger <;> simp [Row.hasOnset, h]

theorem Row.hasOnset_eq_false_iff (r : Row) (t : Time) :
    r.hasOnset t = false ↔ ∀ q, r.trigger = some q → q.onset ≠ t := by
  simp [← Bool.not_eq_true, Row.hasOnset_iff]

theorem onsetPart_eq (e : InEntry) : onsetPart e =
    { onset := ⟨BitVec.ofNat 32 (field e.body 0 4), field e.body 4 3⟩
      cls := TimeClass.ofCode (field e.body 7 1 % 8)
      disturbed := decide (field e.body 7 1 / 8 % 2 = 1)
      inexact := decide (field e.body 7 1 / 16 % 2 = 1)
      ratio := field e.body 8 1, consumed := false, summary := none, lapsed := false } := by
  simp [onsetPart, stampAt, bitsOf]

theorem State.applyOnset_of_late (e : InEntry)
    (h : (onsetPart e).onset.inSecond = false ∨ s.pastSpan (onsetPart e).onset = true) :
    s.applyOnset e = s.mapPeers (fun p => { p with counters := { p.counters with
      late := bump16 p.counters.late } }) := by
  simp only [State.applyOnset]
  rw [if_pos (by simpa using h)]

theorem State.applyOnset_of_repeated (e : InEntry) (hs : (onsetPart e).onset.inSecond = true)
    (hspan : s.pastSpan (onsetPart e).onset = false)
    (h : (s.peers.row e.row).hasOnset (onsetPart e).onset = true) :
    s.applyOnset e = s.mapPeers (fun p => { p with counters := { p.counters with
      repeated := bump16 p.counters.repeated } }) := by
  simp only [State.applyOnset]
  rw [if_neg (by simp [hs, hspan]), if_pos h]

theorem State.applyOnset_of_new (e : InEntry) (hs : (onsetPart e).onset.inSecond = true)
    (hspan : s.pastSpan (onsetPart e).onset = false)
    (h : (s.peers.row e.row).hasOnset (onsetPart e).onset = false) :
    s.applyOnset e = ((s.mapPeers (fun p =>
      p.setRow e.row { s.peers.row e.row with trigger := some (onsetPart e) })).hold e).askCo
        (.vote .peerTable e.row (onsetPart e).onset) := by
  simp only [State.applyOnset]
  rw [if_neg (by simp [hs, hspan]), if_neg (by simp [h])]

theorem State.applyCoda_of_matched (e : InEntry) {q : TriggerPart} (hs : (stampAt e.body 0).inSecond = true)
    (hq : (s.peers.row e.row).trigger = some q) (h : q.onset = stampAt e.body 0) :
    s.applyCoda e = ((s.mapPeers (fun p => p.setRow e.row { s.peers.row e.row with
      trigger := some { q with summary := some (codaSummary e) } })).hold e).askCo
        (.peak .peerTable e.row (stampAt e.body 0) (codaSummary e).peak) := by
  have hhas : (s.peers.row e.row).hasOnset (stampAt e.body 0) = true := (Row.hasOnset_iff _ _).mpr ⟨q, hq, h⟩
  simp only [State.applyCoda, hs, hhas, hq, Bool.and_self, if_true, Option.map_some]

theorem State.applyCoda_of_unmatched (e : InEntry) (h : (stampAt e.body 0).inSecond = false ∨
    (s.peers.row e.row).hasOnset (stampAt e.body 0) = false) :
    s.applyCoda e = s.mapPeers (fun p => { p with counters := { p.counters with
      unmatchedCoda := bump16 p.counters.unmatchedCoda } }) := by
  simp only [State.applyCoda]
  rw [if_neg (by simpa [imp_iff_not_or] using h)]

/-- Settles O34: an equation for each case of the two kinds. -/
theorem onsetsAndCodasWriteTheirRow : Obligations.OnsetsAndCodasWriteTheirRow := by
  refine ⟨fun s e rest n p h hp hn hk hpart => ?_, fun s e rest n onset x h hp hn hk honset hx => ?_⟩
  · rw [← onsetPart_eq] at hpart
    subst hpart
    obtain rfl : e.row = n := e.row_of n hn
    have hexec := exec_inbound_passes s h hp hk
    refine ⟨fun hlate => ?_, fun hsub hspan => ?_⟩
    · refine hexec.trans (congrArg _ (State.applyOnset_of_late _ e ?_))
      exact hlate.imp (by simp [← Bool.not_eq_true, Time.inSecond_iff]) ((s.pastSpan_iff _).mpr)
    · have hin : (onsetPart e).onset.inSecond = true := (Time.inSecond_iff _).mpr hsub
      have hnear : s.pastSpan (onsetPart e).onset = false := by simpa [← Bool.not_eq_true, State.pastSpan_iff]
      refine ⟨fun hrepeat => ?_, fun hnew => ?_⟩
      · exact hexec.trans (congrArg _
          (State.applyOnset_of_repeated _ e hin hnear ((Row.hasOnset_iff _ _).mpr hrepeat)))
      · exact hexec.trans (congrArg _
          (State.applyOnset_of_new (s.entryTaken rest) e hin hnear ((Row.hasOnset_eq_false_iff _ _).mpr hnew)))
  · have hsummary : x = codaSummary e := hx
    have hstamp : onset = stampAt e.body 0 := honset
    clear hx honset
    subst hsummary hstamp
    obtain rfl : e.row = n := e.row_of n hn
    have hexec := exec_inbound_passes s h hp hk
    refine ⟨fun q hsub hq heq => ?_, fun hnone => ?_⟩
    · exact hexec.trans (congrArg _ (State.applyCoda_of_matched _ e ((Time.inSecond_iff _).mpr hsub) hq heq))
    · refine hexec.trans (congrArg _ (State.applyCoda_of_unmatched _ e ?_))
      exact hnone.imp (by simp [← Bool.not_eq_true, Time.inSecond_iff]) (Row.hasOnset_eq_false_iff _ _).mpr

end Sys2Proof.Machine

/-! ## QUERYs and the pages of the service topics (R60, R69, R196, R197, R199, R200, R204) -/

namespace Sys2Proof.Machine

variable (s : State)

/-! ### Bytes and the numbers they spell (R200) -/

@[simp] theorem length_leBytes (n x : Nat) : (leBytes n x).length = n := by
  induction n generalizing x with
  | zero => rfl
  | succ n ih => simp [leBytes, ih]

@[simp] theorem length_leInt (n : Nat) (x : Int) : (leInt n x).length = n := length_leBytes _ _

@[simp] theorem length_stampBytes (t : Time) : (stampBytes t).length = 7 := by simp [stampBytes]

@[simp] theorem State.length_freeBytes (offset n : Nat) : (s.freeBytes offset n).length = n := by
  simp [State.freeBytes]

@[simp] theorem State.length_readingBytes (offset : Nat) (x : Option Int) : (s.readingBytes offset x).length = 2 := by
  cases x <;> simp [State.readingBytes]

@[simp] theorem State.length_freeBits (offset : Nat) (mask : Byte) : (s.freeBits offset mask).length = 1 := rfl

theorem ofLe_leBytes (n x : Nat) : ofLe (leBytes n x) = x % 256 ^ n := by
  induction n generalizing x with
  | zero => simp [leBytes, ofLe, Nat.mod_one]
  | succ n ih => rw [leBytes, ofLe, ih, BitVec.toNat_ofNat, pow_succ' 256 n, Nat.mod_mul]

theorem ofLe_leInt (n : Nat) (x : Int) : (ofLe (leInt n x) : Int) = x % 256 ^ n := by
  have hpos : (0 : Int) < 256 ^ n := by positivity
  rw [leInt, ofLe_leBytes]
  push_cast
  rw [Int.toNat_of_nonneg (Int.emod_nonneg x hpos.ne'), Int.emod_emod_of_dvd x (dvd_refl _)]

theorem ofLe_zeros (n : Nat) : ofLe (List.replicate n 0#8) = 0 := by
  induction n with
  | zero => rfl
  | succ n ih => simp [List.replicate_succ, ofLe, ih]

@[simp] theorem leBytes_one (x : Nat) : leBytes 1 x = [byteOf x] := rfl

@[simp] theorem words_cons (x : Nat) (xs : List Nat) : words (x :: xs) = leBytes 2 x ++ words xs := rfl

@[simp] theorem words_nil : words [] = [] := rfl

/-! ### Bytes that spell the fields of a page (R204) -/

/-- Bytes spell these fields, one after the other and nothing more. -/
def spells : List Byte → List PageField → Prop
  | bytes, [] => bytes = []
  | bytes, (x, n) :: fields => n ≤ bytes.length ∧ (∀ v, x = some v → (ofLe (bytes.take n) : Int) = v % 256 ^ n) ∧
      spells (bytes.drop n) fields

/-- Padded with zeros, bytes that spell the fields of a page hold them. -/
theorem holdsFields_of_spells (fields : List PageField) (m : Nat) (before bytes : List Byte)
    (h : spells bytes fields) : holdsFields (before ++ bytes ++ List.replicate m 0) before.length fields := by
  induction fields generalizing before bytes with
  | nil =>
    intro k hk hk'
    rw [show bytes = [] from h, List.append_nil, List.getD_append_right _ _ _ _ hk]
    simp
  | cons f fields ih =>
    obtain ⟨hlen, hvalue, hrest⟩ := h
    have hsplit : before ++ bytes = before ++ bytes.take f.2 ++ bytes.drop f.2 := by simp
    refine ⟨fun v hv => ?_, ?_⟩
    · rw [← hvalue v hv]
      simp [field, List.take_append_of_le_length hlen]
    · have hend : before.length + f.2 = (before ++ bytes.take f.2).length := by simp [hlen]
      rw [hsplit, hend]
      exact ih _ _ hrest

/-- Bytes that spell the fields of a page and fit into it. -/
def fitsPage (bytes : List Byte) (fields : List PageField) : Prop := bytes.length ≤ 16 ∧ spells bytes fields

theorem holdsFields_padData {bytes : List Byte} {fields : List PageField} (h : fitsPage bytes fields) :
    holdsFields (padData bytes) 0 fields := by
  obtain ⟨hlen, hspells⟩ := h
  have hpad : padData bytes = bytes ++ List.replicate (16 - bytes.length) 0 := by
    simp [padData, List.take_append, List.take_of_length_le hlen, -List.reduceReplicate]
  rw [hpad]
  exact holdsFields_of_spells fields _ [] bytes hspells

theorem length_padData (bytes : List Byte) : (padData bytes).length = 16 := by
  simp [padData]

/-- The padding is the same after zeros of the page's own. -/
theorem padData_zeros (bytes : List Byte) (m : Nat) : padData (bytes ++ List.replicate m 0) = padData bytes := by
  simp only [padData, List.append_assoc, List.replicate_append_replicate, List.take_append, List.take_replicate]
  congr 2
  omega

/-! ### A field at a time

A rule for each way the model writes a field: `simp` takes a page apart with them. -/

@[simp] theorem spells_nil : spells [] [] := rfl

theorem spells_append {bytes : List Byte} (rest : List Byte) (fields : List PageField) {x : Option Int} {n : Nat}
    (hn : bytes.length = n) (hx : ∀ v, x = some v → (ofLe bytes : Int) = v % 256 ^ n) :
    spells (bytes ++ rest) ((x, n) :: fields) ↔ spells rest fields := by
  subst hn
  simp only [spells, List.length_append, Nat.le_add_right, List.take_left', List.drop_left', true_and]
  exact and_iff_right hx

section fields

variable (rest : List Byte) (fields : List PageField)

@[simp] theorem spells_byteOf (x : Nat) :
    spells (byteOf x :: rest) (byteField x :: fields) ↔ spells rest fields :=
  spells_append (bytes := leBytes 1 x) rest fields rfl (by rintro _ ⟨⟩; rw [ofLe_leBytes]; push_cast; rfl)

@[simp] theorem spells_leBytes (n x : Nat) :
    spells (leBytes n x ++ rest) ((some (x : Int), n) :: fields) ↔ spells rest fields :=
  spells_append rest fields (length_leBytes n x) (by rintro _ ⟨⟩; rw [ofLe_leBytes]; push_cast; rfl)

@[simp] theorem spells_word (x : Nat) :
    spells (leBytes 2 x ++ rest) (wordField x :: fields) ↔ spells rest fields :=
  spells_leBytes rest fields 2 x

@[simp] theorem spells_leInt (n : Nat) (x : Int) :
    spells (leInt n x ++ rest) ((some x, n) :: fields) ↔ spells rest fields :=
  spells_append rest fields (length_leInt n x) (by rintro _ ⟨⟩; exact ofLe_leInt n x)

@[simp] theorem spells_stamp (t : Time) :
    spells (stampBytes t ++ rest) (stampFields t ++ fields) ↔ spells rest fields := by
  simp [stampBytes, stampFields]

theorem spells_unstated {bytes : List Byte} {n : Nat} (h : bytes.length = n) :
    spells (bytes ++ rest) ((none, n) :: fields) ↔ spells rest fields :=
  spells_append rest fields h (by simp)

@[simp] theorem spells_free (offset n : Nat) :
    spells (s.freeBytes offset n ++ rest) ((none, n) :: fields) ↔ spells rest fields :=
  spells_unstated rest fields (s.length_freeBytes offset n)

@[simp] theorem spells_reading (offset : Nat) (x : Option Int) :
    spells (s.readingBytes offset x ++ rest) ((x, 2) :: fields) ↔ spells rest fields := by
  cases x <;> simp [State.readingBytes]

@[simp] theorem spells_zeros (n : Nat) :
    spells (List.replicate n 0#8 ++ rest) ((some 0, n) :: fields) ↔ spells rest fields :=
  spells_append rest fields (List.length_replicate ..) (by rintro _ ⟨⟩; simp [ofLe_zeros])

end fields

/-! ### The last field of a page -/

@[simp] theorem spells_leBytes_last (n x : Nat) : spells (leBytes n x) [(some (x : Int), n)] := by
  simpa using (spells_leBytes [] [] n x).mpr rfl

@[simp] theorem spells_word_last (x : Nat) : spells (leBytes 2 x) [wordField x] := spells_leBytes_last 2 x

@[simp] theorem spells_stamp_last (t : Time) : spells (stampBytes t) (stampFields t) := by
  simpa using (spells_stamp [] [] t).mpr rfl

@[simp] theorem spells_free_last (offset n : Nat) : spells (s.freeBytes offset n) [(none, n)] := by
  simpa using (spells_free s [] [] offset n).mpr rfl

/-! ### The topics 0 to 3 -/

/-- A byte for each place of a list from an offset on. -/
theorem spells_range (bytes : List Byte) (offset n : Nat) (h : offset + n ≤ bytes.length) :
    spells ((bytes.drop offset).take n) ((List.range n).map (fun k => byteField (field bytes (offset + k) 1))) := by
  induction n generalizing offset with
  | zero => simp
  | succ n ih =>
    have hlt : offset < bytes.length := by omega
    have hbyte : bytes[offset] = byteOf (field bytes offset 1) := by
      rw [field, List.drop_eq_getElem_cons hlt, List.take_succ_cons, List.take_zero]
      simp [ofLe, byteOf]
    rw [List.drop_eq_getElem_cons hlt, List.take_succ_cons, List.range_succ_eq_map, List.map_cons, List.map_map, hbyte]
    refine (spells_byteOf _ _ _).mpr ?_
    simpa [Function.comp_def, Nat.add_assoc, Nat.add_comm 1] using ih (offset + 1) (by omega)

theorem fitsPage_topic0 (index page : Nat) (h : page < 4) :
    fitsPage (s.topic0 page) (s.clockPages 0 index page) := by
  by_cases hp : page = 0
  · simp [fitsPage, State.topic0, State.clockPages, hp, State.isDisturbed]
  · have himage : 16 * (page - 1) + 16 ≤ s.loader.image.toList.length := by
      rw [Vector.length_toList]
      omega
    refine ⟨by simp [State.topic0, hp], ?_⟩
    simpa [State.topic0, State.clockPages, hp] using spells_range s.loader.image.toList _ 16 himage

theorem fitsPage_topic1 (index page : Nat) : fitsPage (s.topic1 page) (s.clockPages 1 index page) := by
  by_cases hp : page = 0 <;> simp [fitsPage, State.topic1, State.clockPages, hp, State.timeClass]

theorem fitsPage_topic2 (index page : Nat) : fitsPage (s.topic2 index) (s.clockPages 2 index page) := by
  cases h : s.clock.log[index]? <;> simp [fitsPage, State.topic2, State.clockPages, h]

theorem Detector.reportedCount_eq (d : Detector) : d.reportedCount =
    if d.state = .warmup then d.warmup else if d.state = .holdoff then d.holdoff else 0 := by
  cases h : d.state <;> simp [Detector.reportedCount, h]

theorem fitsPage_topic3 (page : Nat) : fitsPage (s.topic3 page) (s.detectorPages page) := by
  simp only [State.topic3, State.detectorPages, ← Detector.reportedCount_eq]
  split_ifs
  · simp [fitsPage]
  · cases s.detector.record <;> simp [fitsPage, triggerFlags]
  · simp [fitsPage]
  · simp [fitsPage]

/-! ### Topic 4 -/

theorem length_members (l : List (Station × Time)) : (l.flatMap memberBytes).length = 8 * l.length := by
  simp [List.length_flatMap, memberBytes, Nat.mul_comm]

theorem spells_members (l : List (Station × Time)) : spells (l.flatMap memberBytes)
    (l.flatMap (fun m => byteField m.1.val :: stampFields m.2)) := by
  induction l with
  | nil => rfl
  | cons m l ih => simpa [memberBytes] using ih

theorem fitsPage_memberPage (e : Event) (page : Nat) : fitsPage (e.memberPage page)
    (((e.onsets.drop (2 * (page - 1))).take 2).flatMap (fun m => byteField m.1.val :: stampFields m.2)) := by
  refine ⟨?_, spells_members _⟩
  have htwo := List.length_take_le 2 (e.memberList.drop (2 * (page - 1)))
  rw [Event.memberPage, length_members]
  omega

theorem fitsPage_eventPage (e : Event) : fitsPage (s.eventPage e)
    ([byteField (2 * bit e.adopted + 4 * bit e.isOpen + 8 * bit e.peak.isSome + 16 * e.originStation.val),
      byteField (e.alertOutcome.code + 8 * e.raiseOutcome.code + 64 * bit (decide (e.level = 2))),
      byteField e.serial.toNat, byteField e.weight, wordField e.contributors.toNat] ++ stampFields e.origin
        ++ [(e.peak.map (fun p => (p : Int)), 3)]) := by
  cases h : e.peak <;> simp [fitsPage, State.eventPage, setBytes, h]

theorem fitsPage_alertPage : fitsPage s.alertPage (s.eventPages 0 11) := by
  cases h : s.alerts.deference <;> simp [fitsPage, State.alertPage, State.eventPages, h]

theorem fitsPage_topic4 (index page : Nat) : fitsPage (s.topic4 index page) (s.eventPages index page) := by
  simp only [State.topic4, State.eventPages]
  split_ifs
  · cases s.co.events[index]? with
    | none => exact ⟨by simp, (spells_byteOf [] [] 1).mpr rfl⟩
    | some e => exact fitsPage_eventPage s e
  · cases s.co.events[index]? with
    | none => simp [fitsPage]
    | some e => exact fitsPage_memberPage e page
  · cases s.co.events[index]? <;> simp [fitsPage, Event.onsets, Event.memberList, -List.reduceReplicate]
  · simp [fitsPage]
  · simp [fitsPage]
  · exact fitsPage_alertPage s

/-! ### Topic 5 -/

theorem Row.isSome_summary (r : Row) : r.summary.isSome = r.trigger.any (fun p => p.summary.isSome) := by
  cases h : r.trigger <;> simp [Row.summary, h]

/-- The eight bytes of an absent time part. -/
@[simp] theorem spells_absentTime (rest : List Byte) (fields : List PageField) :
    spells (s.freeBytes 1 2 ++ (s.freeBits 3 15#8 ++ (s.freeBytes 4 5 ++ rest))) ((none, 8) :: fields) ↔
      spells rest fields := by
  simpa using spells_unstated (bytes := s.freeBytes 1 2 ++ s.freeBits 3 15#8 ++ s.freeBytes 4 5) rest fields (by simp)

theorem fitsPage_rowPage (r : Row) : fitsPage (s.rowPage r) (r.pages 0) := by
  cases ht : r.time <;> cases hh : r.heat <;> simp [fitsPage, State.rowPage, Row.pages, Row.isSome_summary, ht, hh]

/-- The summary's bytes of a trigger part without one, which are left to the padding. -/
theorem fitsPage_unsummed (p : TriggerPart) (h : p.summary = none) :
    fitsPage (triggerFlags p.cls p.disturbed p.inexact p.consumed 0 :: (stampBytes p.onset ++ leBytes 1 p.ratio)
      ++ List.replicate 7 0#8) (triggerFields p) := by
  have hzeros : List.replicate 7 0#8 = leBytes 3 0 ++ (leBytes 2 0 ++ leBytes 2 0) := rfl
  rw [hzeros]
  have hpeak := spells_leBytes (leBytes 2 0 ++ leBytes 2 0) [wordField 0, wordField 0] 3 0
  simpa [fitsPage, triggerFields, triggerFlags, h] using hpeak

theorem holdsFields_rowTriggerPage (r : Row) {page : Nat} (hp : page ≠ 0) :
    holdsFields (padData (s.rowTriggerPage r)) 0 (r.pages page) := by
  cases ht : r.trigger with
  | none =>
    refine holdsFields_padData ⟨by simp [State.rowTriggerPage, ht], ?_⟩
    simpa [State.rowTriggerPage, Row.pages, ht, hp] using
      spells_unstated (bytes := s.freeBits 0 0x3F ++ s.freeBytes 1 8) [] [] (by simp)
  | some p =>
    simp only [State.rowTriggerPage, Row.pages, ht, hp, if_false]
    cases hsum : p.summary with
    | none =>
      rw [← padData_zeros _ 7]
      exact holdsFields_padData (fitsPage_unsummed p hsum)
    | some x =>
      exact holdsFields_padData (by simp [fitsPage, triggerFields, triggerFlags, hsum])

/-! ### The topics 6 to 8 -/

theorem fitsPage_topic6 (page : Nat) : fitsPage (s.topic6 page) (s.powerPages page) := by
  simp only [State.topic6, State.powerPages]
  split_ifs
  · simp [fitsPage, State.soc, Profile.qCap]
  · simp [fitsPage]
  · cases h : s.heater.announced <;> simp [fitsPage]
  · simp [fitsPage]
  · simp [fitsPage]

theorem fitsPage_topic7 (index page : Nat) : fitsPage (s.topic7 page) (s.linkPages 7 index page) := by
  simp only [State.topic7, State.linkPages, true_and, if_true]
  split_ifs
  · simp [fitsPage, LinkCounters.list]
  · simp [fitsPage, LinkCounters.list]
  · simp [fitsPage]

theorem fitsPage_topic8 (index page : Nat) : fitsPage (s.topic8 index) (s.linkPages 8 index page) := by
  cases h : s.sched.history[index]? with
  | none => simp [fitsPage, State.topic8, State.linkPages, h, -List.reduceReplicate]
  | some r => cases hc : r.capture <;> simp [fitsPage, State.topic8, State.linkPages, h, hc]

/-! ### The page of a topic (R196, R204) -/

theorem pageCount_eq (topic : Nat) : pageCount topic = [4, 2, 1, 4, 12, 2, 5, 3, 1].getD topic 1 := by
  match topic with
  | 0 | 1 | 2 | 3 | 4 | 5 | 6 | 7 | 8 => rfl
  | n + 9 => rfl

theorem pageCount_pos (topic : Nat) : 0 < pageCount topic := by
  unfold pageCount
  split <;> decide

theorem indexAccepted_iff (topic index : Nat) : indexAccepted topic index = true ↔
    topic ≤ 8 ∧ (topic = 2 → index ≤ 3) ∧ (topic = 4 → index ≤ 7) ∧ (topic = 5 → index ≤ 13) ∧
      (topic = 8 → index ≤ 7) := by
  match topic with
  | 0 | 1 | 2 | 3 | 4 | 5 | 6 | 7 | 8 => simp [indexAccepted]
  | n + 9 => simp [indexAccepted]

theorem holdsFields_topicFields {topic page : Nat} (index : Nat) (ht : topic ≤ 8) (hp : page < pageCount topic) :
    holdsFields (padData (s.topicFields topic index page)) 0 (s.pageFields topic index page) := by
  match topic with
  | 0 => exact holdsFields_padData (fitsPage_topic0 s index page hp)
  | 1 => exact holdsFields_padData (fitsPage_topic1 s index page)
  | 2 => exact holdsFields_padData (fitsPage_topic2 s index page)
  | 3 => exact holdsFields_padData (fitsPage_topic3 s page)
  | 4 => exact holdsFields_padData (fitsPage_topic4 s index page)
  | 5 =>
    change holdsFields (padData (s.topic5 index page)) 0 ((s.peers.row (Fin.ofNat 14 index)).pages page)
    by_cases h : page = 0
    · subst h
      exact holdsFields_padData (fitsPage_rowPage s _)
    · rw [State.topic5, if_neg h]
      exact holdsFields_rowTriggerPage s _ h
  | 6 => exact holdsFields_padData (fitsPage_topic6 s page)
  | 7 => exact holdsFields_padData (fitsPage_topic7 s index page)
  | 8 => exact holdsFields_padData (fitsPage_topic8 s index page)

/-! ### The answer to a QUERY (R60, R196, R197) -/

/-- A QUERY passes the filter from no station as from a station of the peer set; the responder takes it if it is for
this one. -/
theorem exec_inboundQuery_applies {e : InEntry} {rest : List InEntry} (h : s.takesEntry e rest)
    (hk : e.kind = .query) (hne : e.sender.toNat ≠ s.loader.station.val)
    (hset : e.sender.toNat < 14 → s.loader.profile.peerSet.getLsbD e.sender.toNat = true) :
    exec .inboundQuery s = .next (if field e.body 0 1 % 16 = s.loader.station.val then
      (s.entryTaken rest).takeQuery (field e.body 0 1 / 16 % 16) (e.body.getD 1 0) else s.entryTaken rest) := by
  have hf : filterEntry s.own s.profile.peerSet e = .applies := by
    by_cases hlt : e.sender.toNat < 14
    · exact filterEntry_of_passes s e ⟨hlt, hne, hset hlt⟩
    · rw [filterEntry_noStation _ (by omega), if_pos hk]
  have hexec := exec_inbound_applies s h hf
  rw [hk] at hexec
  refine hexec.trans ?_
  simp only [FrameKind.apply, State.applyQuery, bitsOf, pow_zero, Nat.div_one]
  rfl

theorem State.takeQuery_of_pending (topic : Nat) (index : Byte) (h : s.service.pendingReply ≠ none) :
    s.takeQuery topic index = { s with service := { s.service with counters := { s.service.counters with
      busyDrops := bump16 s.service.counters.busyDrops } } } := by
  rw [State.takeQuery, if_pos (Option.isSome_iff_ne_none.mpr h)]

/-- The counters of the responder at a QUERY that is taken. -/
def State.queryCounted (accepted : Bool) : State :=
  { s with service := { s.service with counters := s.service.counters.take (!accepted) } }

theorem State.takeQuery_of_free (topic : Nat) (index : Byte) (h : s.service.pendingReply = none) :
    s.takeQuery topic index = if indexAccepted topic (index.toNat % 16) then
      (s.queryCounted true).requestReply topic index ((s.queryCounted true).replyData topic index)
    else (s.queryCounted false).requestReply 15 index (List.replicate 16 0) := by
  rw [State.takeQuery, if_neg (by simp [h])]
  cases indexAccepted topic (index.toNat % 16) <;> rfl

theorem State.requestReply_of_empty (topic : Nat) (index : Byte) (data : List Byte)
    (h : s.sched.slots.reply = .empty) : s.requestReply topic index data = { s with
      free := s.free + 1
      service := { s.service with pendingReply := some (topic, index) }
      sched := { s.sched with slots := { s.sched.slots with
        reply := .ready ⟨BitVec.ofNat 8 topic :: index :: data, .query topic index, s.clock.time,
          some (s.clock.time.add 50000000), 0, none, false⟩ } } } :=
  State.request_of_empty _ .reply _ _ _ _ h

/-- Settles O35: the filter, the three ways of the responder, and a page for each topic. -/
theorem queriesAreAnswered : Obligations.QueriesAreAnswered := by
  rintro s e rest topic k page index h hk hne hset htopic hindex rfl hpage
  have hexec := exec_inboundQuery_applies s h hk hne hset
  rw [← htopic, ← hindex] at hexec
  rw [← pageCount_eq] at hpage
  refine ⟨fun hother => ?_, fun hown hpending => ?_,
    fun hown hfree hempty accepted counters haccepted hcounters => ?_⟩
  · rw [hexec, if_neg hother]
    rfl
  · rw [hexec, if_pos hown, State.takeQuery_of_pending (s.entryTaken rest) _ _ hpending]
    rfl
  · have hreply (a : Bool) := State.requestReply_of_empty ((s.entryTaken rest).queryCounted a) (h := hempty)
    rw [if_pos hown, State.takeQuery_of_free (s.entryTaken rest) _ _ hfree] at hexec
    rw [← indexAccepted_iff, Bool.coe_iff_coe] at haccepted
    subst hcounters
    cases accepted with
    | true =>
      rw [← haccepted, if_pos rfl, hreply] at hexec
      obtain ⟨hknown, -⟩ := (indexAccepted_iff _ _).mp haccepted.symm
      have hlt : page < pageCount topic := by
        rw [hpage]
        exact Nat.mod_lt _ (pageCount_pos topic)
      have hholds := holdsFields_topicFields ((s.entryTaken rest).queryCounted true) (index.toNat % 16) hknown hlt
      refine ⟨((s.entryTaken rest).queryCounted true).replyData topic index, length_padData _, by simp,
        fun _ => ?_, ?_⟩
      · rw [State.replyData, ← hpage]
        exact hholds
      · rintro top r rfl rfl
        exact hexec
    | false =>
      rw [← haccepted, if_neg (by simp), hreply] at hexec
      refine ⟨List.replicate 16 0, rfl, fun _ => rfl, by simp, ?_⟩
      rintro top r rfl rfl
      exact hexec

end Sys2Proof.Machine

/-! ## The outbound scheduler: requests, returns, deadlines and beacons (R64, R68, R69, R71, R73 to R76) -/

namespace Sys2Proof.Machine

variable (s : State)

/-! ### A request that leaves its slot (R71, R76) -/

/-- A request that leaves while its slot is written: the slot, the history and the block that is told. -/
theorem State.setSlot_leave_told (k : TxKind) (v : Slot) (r : Request) (o : SendOutcome) :
    ((s.setSlot k v).leave k r o).sched.slots.get k = v ∧
    ((s.setSlot k v).leave k r o).sched.history =
      ((⟨k, r.time, r.capture, r.attempts, o⟩ : HistoryRecord) :: s.sched.history).take 8 ∧
    s.told ((s.setSlot k v).leave k r o) k r.ref o := by
  rw [State.leave_sched]
  exact ⟨s.sched.slots.get_set_self k v, rfl, (s.setSlot k v).leave_told k r o⟩

theorem State.setSlot_leave_get_other (j k : TxKind) (v : Slot) (r : Request) (o : SendOutcome) (h : j ≠ k) :
    ((s.setSlot k v).leave k r o).sched.slots.get j = s.sched.slots.get j := by
  rw [State.leave_sched]
  exact s.sched.slots.get_set_other j k v h

/-! ### Requests (R64) -/

/-- The scheduler's own fields of a request start at 0, none and clear. -/
theorem Request.fresh_eq (r : Request) (ha : r.attempts = 0) (hc : r.capture = none) (hm : r.mark = false) :
    r = ⟨r.body, r.ref, r.time, r.deadline, 0, none, false⟩ := by
  cases r
  simp_all

section request

variable {k : TxKind} (r : Request) (ha : r.attempts = 0) (hc : r.capture = none) (hm : r.mark = false)

include ha hc hm

theorem State.request_of_ready {old : Request} (h : s.sched.slots.get k = .ready old) :
    s.request k r.body r.ref r.time r.deadline = (s.setSlot k (.ready r)).leave k old .superseded := by
  rw [State.request, ← r.fresh_eq ha hc hm]
  simp only [h]

theorem State.request_of_inFlight {f : Request} (h : s.sched.slots.get k = .inFlight f none) :
    s.request k r.body r.ref r.time r.deadline = s.setSlot k (.inFlight f (some r)) := by
  rw [State.request, ← r.fresh_eq ha hc hm]
  simp only [h]

theorem State.request_of_waiting {f old : Request} (h : s.sched.slots.get k = .inFlight f (some old)) :
    s.request k r.body r.ref r.time r.deadline =
      (s.setSlot k (.inFlight f (some r))).leave k old .superseded := by
  rw [State.request, ← r.fresh_eq ha hc hm]
  simp only [h]

end request

/-- A request writes its slot, and the request it supersedes, if there is one, leaves. -/
theorem State.request_cases (k : TxKind) (body : List Byte) (ref : Ref) (time : Time) (deadline : Option Time) :
    ∃ v, s.request k body ref time deadline = s.setSlot k v ∨
      ∃ old, s.request k body ref time deadline = (s.setSlot k v).leave k old .superseded := by
  unfold State.request
  split
  · exact ⟨_, .inl rfl⟩
  · exact ⟨_, .inr ⟨_, rfl⟩⟩
  · exact ⟨_, .inl rfl⟩
  · exact ⟨_, .inr ⟨_, rfl⟩⟩

/-- Settles O26: the four states of a slot, then what every request leaves alone. -/
theorem requestTakesItsSlot : Obligations.RequestTakesItsSlot := by
  rintro s t k r ha hc hm rfl
  refine ⟨fun h => ?_, fun old h => ?_, fun f h => ?_, fun f old h => ?_, fun j hj => ?_, ?_⟩
  · rw [s.request_of_empty k _ _ _ _ h, ← r.fresh_eq ha hc hm]
    rfl
  · rw [s.request_of_ready r ha hc hm h]
    exact s.setSlot_leave_told k _ old _
  · exact s.request_of_inFlight r ha hc hm h
  · rw [s.request_of_waiting r ha hc hm h]
    exact s.setSlot_leave_told k _ old _
  · obtain ⟨v, heq | ⟨old, heq⟩⟩ := s.request_cases k r.body r.ref r.time r.deadline
    · rw [heq]
      exact s.sched.slots.get_set_other j k v hj
    · rw [heq, s.setSlot_leave_get_other j k v old _ hj]
  · obtain ⟨v, heq | ⟨old, heq⟩⟩ := s.request_cases k r.body r.ref r.time r.deadline
    · rw [heq]
      rfl
    · rw [heq]
      exact (s.setSlot k v).leave_eq k old _

/-! ### Deadlines (R69) -/

theorem Request.expired_iff (r : Request) (now : Time) :
    r.expired now = true ↔ ∃ d, r.deadline = some d ∧ 0 ≤ now.diff d := by
  cases h : r.deadline <;> simp [Request.expired, Time.reached, h]

/-- A READY request and a waiting one that have expired leave in the same way. READY, the slot is left empty; waiting,
the frame in flight stays in it. -/
theorem State.expire_of_expired {k : TxKind} {r : Request} (hx : r.expired s.clock.time = true)
    (h : s.sched.slots.get k = .ready r ∨ ∃ f, s.sched.slots.get k = .inFlight f (some r)) :
    ∃ left, (s.sched.slots.get k).expiring s.clock.time = true ∧
      s.expire k = (s.setSlot k left).leave k r .expired ∧
      (s.sched.slots.get k = .ready r → left = .empty) ∧
      (∀ f, s.sched.slots.get k = .inFlight f (some r) → left = .inFlight f none) := by
  rcases h with h | ⟨f, h⟩
  · exact ⟨.empty, by simp [h, Slot.expiring, hx], by simp [State.expire, h, hx], fun _ => rfl, by simp [h]⟩
  · exact ⟨.inFlight f none, by simp [h, Slot.expiring, hx], by simp [State.expire, h, hx], by simp [h],
      by simp [h]⟩

/-- A request with a deadline that expires, which is a BEACON, a HEAT or a REPLY, is told to the heater controller and
to the service responder. -/
theorem State.leave_expired (k : TxKind) (r : Request) (h : k = .beacon ∨ k = .heat ∨ k = .reply) :
    (k = .heat → (s.leave k r .expired).heater = { s.heater with counters := { s.heater.counters with
      notSent := min (s.heater.counters.notSent + 1) 65535 } }) ∧
    (k ≠ .heat → (s.leave k r .expired).heater = s.heater) ∧
    (k = .reply → (s.leave k r .expired).service = { s.service with
      pendingReply := none
      counters := { s.service.counters with expired := min (s.service.counters.expired + 1) 65535 } }) ∧
    (k ≠ .reply → (s.leave k r .expired).service = s.service) ∧
    s.leave k r .expired = { s with
      sched := (s.leave k r .expired).sched, heater := (s.leave k r .expired).heater
      service := (s.leave k r .expired).service } := by
  obtain ⟨hheat, hreply, -, -⟩ := s.leave_other k r .expired
  refine ⟨?_, hheat, ?_, hreply, ?_⟩
  · rintro rfl
    rfl
  · rintro rfl
    rfl
  · rcases h with rfl | rfl | rfl <;> rfl

/-- Settles O29: what is left in the slot, and who is told. -/
theorem deadlinesExpireRequests : Obligations.DeadlinesExpireRequests := by
  intro s k c r d h hp hck hd hreached hslot
  have hk : deadlineSlot c = k := by
    rcases hck with ⟨rfl, rfl⟩ | ⟨rfl, rfl⟩ | ⟨rfl, rfl⟩ <;> rfl
  have hkind : k = .beacon ∨ k = .heat ∨ k = .reply := hck.imp And.right (Or.imp And.right And.right)
  obtain ⟨left, hexpiring, hexpire, hready, hwaiting⟩ :=
    s.expire_of_expired ((r.expired_iff _).mpr ⟨d, hd, hreached⟩) hslot
  have hdue : s.deadlineDue c = true := by
    simp [State.deadlineDue, State.isRunning, hp, hk, hexpiring]
  have hexec : exec (.requestDeadline c) s = .next ((s.setSlot k left).leave k r .expired) := by
    rw [exec_requestDeadline, carryOut_of s _ _ h hdue, hk, hexpire]
  obtain ⟨hget, hhistory, -⟩ := s.setSlot_leave_told k left r .expired
  obtain ⟨hheat, hnoHeat, hreply, hnoReply, hframe⟩ := (s.setSlot k left).leave_expired k r hkind
  exact ⟨_, hexec, fun hslot => hready hslot ▸ hget, fun f hslot => hwaiting f hslot ▸ hget,
    fun j hj => s.setSlot_leave_get_other j k left r _ hj, hhistory, hheat, hnoHeat, hreply, hnoReply, hframe⟩

/-! ### Beacons (R73 to R75) -/

/-- The candidate point of this station that has just fallen is the one to take, where it is later than the last. -/
theorem State.candidatePoint_of_fallen {p : Time} (hp : s.loader.phase = .running)
    (heq : p = ⟨s.clock.time.sec, 500000 * s.loader.station.val⟩)
    (hlow : 500000 * s.loader.station.val ≤ s.clock.time.sub)
    (hhigh : s.clock.time.sub < 500000 * s.loader.station.val + s.clock.advanced)
    (hsec : s.clock.time.sec.toNat % s.loader.profile.beaconPeriod = 0)
    (hlater : ∀ q, s.sched.lastCandidate = some q → 0 < p.diff q) : s.candidatePoint = some p := by
  have hfell : s.fell (500000 * s.own.val) = some p := by
    rw [heq]
    exact if_pos ⟨hlow, hhigh⟩
  have hlast : laterThanLast p s.sched.lastCandidate = true := by
    cases hq : s.sched.lastCandidate with
    | none => rfl
    | some q => exact decide_eq_true (hlater q hq)
  have hsecond : p.sec.toNat % s.profile.beaconPeriod = 0 := by
    rw [heq]
    exact hsec
  simp only [State.candidatePoint, hfell]
  rw [if_pos (by simp [State.isRunning, hp, hsecond, hlast])]

/-- Settles O30: the point that has fallen, and the stage's period. -/
theorem beaconsAreRequestedAtTheirPoints : Obligations.BeaconsAreRequestedAtTheirPoints := by
  intro s p period h hp heq hlow hhigh hsec hlater hperiod
  have hpoint := s.candidatePoint_of_fallen hp heq hlow hhigh hsec hlater
  have hstage : s.stagePeriod = period := by
    rw [hperiod]
    rfl
  have hexec : exec .beaconCandidatePoint s = .next s.takeCandidate := by
    rw [exec_beaconCandidatePoint, carryOut_of s _ _ h (by simp [hpoint])]
  have hp' : p.sec = s.clock.time.sec := by rw [heq]
  have htake : s.takeCandidate = if p.sec.toNat % period = 0
      then ({ s with sched := { s.sched with lastCandidate := some p } } : State).request .beacon s.beaconNow
        (.stamp p) p (some (p.add 5000000))
      else { s with sched := { s.sched with lastCandidate := some p } } := by
    rw [← hstage]
    simp only [State.takeCandidate, hpoint]
    rfl
  rw [hp'] at htake
  refine ⟨fun hne => ?_, fun hz => ?_⟩
  · rw [hexec, htake, if_neg hne]
  · rw [hexec, htake, if_pos hz]
    rfl

end Sys2Proof.Machine

/-! ## Frames that return, and withdrawals (R68, R70, R71, R76, R146, R147, R149, R152) -/

namespace Sys2Proof.Machine

variable (s : State)

/-! ### The event list (R139) -/

theorem State.event_serial {n : BitVec 8} {e : Event} (h : s.event n = some e) : e.serial = n := by
  simpa using List.find?_some h

/-- The record with a serial after a change of it. -/
theorem State.event_updateEvent {n : BitVec 8} {e : Event} (f : Event → Event)
    (hf : ∀ x, (f x).serial = x.serial) (h : s.event n = some e) : (s.updateEvent n f).event n = some (f e) := by
  have hn : e.serial = n := s.event_serial h
  have hserial : ((fun x : Event => x.serial == n) ∘ fun x => if x.serial == n then f x else x) =
      fun x => x.serial == n := by
    funext x
    dsimp only [Function.comp]
    split <;> simp [hf]
  rw [State.event, State.updateEvent, List.find?_map, hserial, show s.co.events.find? _ = some e from h]
  simp [hn]

theorem Event.setOutcome_serial (e : Event) (j : AlertKind) (o : AlertOutcome) :
    (e.setOutcome j o).serial = e.serial := by cases j <;> rfl

theorem Event.outcome_setOutcome_self (e : Event) (j : AlertKind) (o : AlertOutcome) :
    (e.setOutcome j o).outcome j = o := by cases j <;> rfl

/-! ### A frame that returns (R68) -/

theorem Request.expired_eq_false_iff (r : Request) (now : Time) :
    r.expired now = false ↔ ∀ d, r.deadline = some d → now.diff d < 0 := by
  rw [← Bool.not_eq_true, r.expired_iff]
  simp

section returned

variable {k : TxKind} {f r x : Request} {w : Option Request} {lost : Bool}
  (hr : r = if lost then { f with attempts := min (f.attempts + 1) 255 } else f)

include hr

theorem State.returned_of_marked (h : s.sched.slots.get k = .inFlight f w) (hm : r.mark = true) :
    s.returned k lost = (s.setSlot k (slotAfter w)).leave k r .withdrawn := by
  rw [s.returned_eq k f w lost h, ← hr]
  exact if_pos hm

theorem State.returned_of_superseded (h : s.sched.slots.get k = .inFlight f (some x)) (hm : r.mark = false) :
    s.returned k lost = (s.setSlot k (.ready x)).leave k r .superseded := by
  rw [s.returned_eq k f (some x) lost h, ← hr]
  exact if_neg (Bool.eq_false_iff.mp hm)

theorem State.returned_alone (h : s.sched.slots.get k = .inFlight f none) (hm : r.mark = false) :
    s.returned k lost = if r.expired s.clock.time then (s.setSlot k .empty).leave k r .expired
      else s.setSlot k (.ready r) := by
  rw [s.returned_eq k f none lost h, ← hr]
  exact if_neg (Bool.eq_false_iff.mp hm)

end returned

/-! ### Withdrawals (R70, R146) -/

theorem AlertKind.holder_eq (j : AlertKind) : j.holder = j.slot := by cases j <;> rfl

/-- The part with a request taken back: its outcome final, its slot written, and the request gone (R70). -/
def State.takenBack (j : AlertKind) (n : BitVec 8) (cause : Cause) (r : Request) (left : Slot) : State :=
  ((s.resolve j n cause.outcome).setSlot j.holder left).leave j.holder r .withdrawn

section withdraw

variable {j : AlertKind} {n : BitVec 8} (cause : Cause) {f r : Request} {w : Option Request}

theorem State.withdraw_of_ready (h : s.sched.slots.get j.holder = .ready r) (hr : r.ref = .serial n) :
    s.withdraw j n cause = s.takenBack j n cause r .empty := by
  rw [j.holder_eq] at h
  simp only [State.withdraw, State.takenBack, j.holder_eq, h, hr, if_true]

theorem State.withdraw_of_waiting (h : s.sched.slots.get j.holder = .inFlight f (some r)) (hf : f.ref ≠ .serial n)
    (hr : r.ref = .serial n) : s.withdraw j n cause = s.takenBack j n cause r (.inFlight f none) := by
  rw [j.holder_eq] at h
  simp only [State.withdraw, State.takenBack, j.holder_eq, h, hf, hr, if_true, if_false]

theorem State.withdraw_of_inFlight (h : s.sched.slots.get j.holder = .inFlight f w) (hf : f.ref = .serial n) :
    s.withdraw j n cause = { s with
      sched := { s.sched with slots := s.sched.slots.set j.holder (.inFlight { f with mark := true } w) }
      alerts := { s.alerts with tracking := s.alerts.tracking.map (fun x =>
        if x.kind = j ∧ x.serial = n ∧ x.cause = .none then { x with cause := cause } else x) } } := by
  rw [j.holder_eq] at h ⊢
  simp only [State.withdraw, h, hf, if_true, State.setCause]
  simp [State.setSlot, and_assoc]

theorem State.withdraw_of_notHeld (h : s.sched.slots.get j.holder = .empty ∨
    (∃ r, s.sched.slots.get j.holder = .ready r ∧ r.ref ≠ .serial n) ∨
    (∃ f w, s.sched.slots.get j.holder = .inFlight f w ∧ f.ref ≠ .serial n ∧ ∀ r, w = some r → r.ref ≠ .serial n)) :
    s.withdraw j n cause = s := by
  rw [j.holder_eq] at h
  rcases h with h | ⟨r, h, hr⟩ | ⟨f, w, h, hf, hw⟩
  · simp only [State.withdraw, h]
  · simp only [State.withdraw, h, hr, if_false]
  · cases w with
    | none => simp only [State.withdraw, h, hf, if_false]
    | some r => simp only [State.withdraw, h, hf, hw r rfl, if_false]

end withdraw

theorem State.takenBack_sched (j : AlertKind) (n : BitVec 8) (cause : Cause) (r : Request) (left : Slot) :
    (s.takenBack j n cause r left).sched = { s.sched with
      slots := s.sched.slots.set j.holder left
      history :=
        ((⟨j.holder, r.time, r.capture, r.attempts, .withdrawn⟩ : HistoryRecord) :: s.sched.history).take 8 } := by
  rw [State.takenBack, State.leave_sched]
  simp [State.setSlot]

theorem State.report_holder (j : AlertKind) (n : BitVec 8) (o : SendOutcome) :
    s.report j.holder (.serial n) o = s.reportAlert j n o := by cases j <;> rfl

theorem State.untrack_eq (j : AlertKind) (n : BitVec 8) :
    s.untrack j n = { s with alerts := { s.alerts with tracking := s.alerts.untracked j n } } := rfl

/-- A withdrawn request whose outcome is final already ends its tracking alone. -/
theorem State.reportAlert_withdrawn_of_final (j : AlertKind) (n : BitVec 8) {e : Event} (he : s.event n = some e)
    (hfinal : (e.outcome j).final = true) : s.reportAlert j n .withdrawn = s.untrack j n := by
  cases hx : s.trackingOf j n with
  | none =>
    have hnone : ∀ x ∈ s.alerts.tracking, ¬(decide (x.kind = j) && x.serial == n) = true :=
      List.find?_eq_none.mp hx
    rw [State.untrack, List.eraseP_of_forall_not hnone]
    simp only [State.reportAlert, hx]
  | some x =>
    have hres (o : AlertOutcome) : (s.untrack j n).resolve j n o = s.untrack j n :=
      (s.untrack j n).resolve_of_final j n o e he hfinal
    rw [s.reportAlert_of_tracked j n .withdrawn hx (hres _), if_neg (by simp)]

theorem Cause.outcome_eq (c : Cause) : c.outcome = if c = .yield then .yielded else .lapsed := by cases c <;> rfl

theorem Cause.outcome_final (c : Cause) : c.outcome.final = true := by cases c <;> rfl

/-- A pending request taken back: its outcome is set and counted once, and its tracking ends. -/
theorem State.takenBack_tookBack {j : AlertKind} {n : BitVec 8} (cause : Cause) {r : Request} (left : Slot) {e : Event}
    (he : s.event n = some e) (hp : e.outcomeOf j = .pending) (hr : r.ref = .serial n) :
    s.tookBack (s.takenBack j n cause r left) j n r left (if cause = .yield then .yielded else .lapsed) := by
  have hresolve : s.resolve j n cause.outcome = (s.setOutcome j n cause.outcome).countOutcome j cause.outcome := by
    refine s.resolve_of_open j n _ fun x hx => ?_
    obtain rfl : e = x := by simpa [he] using hx
    rw [← Event.outcomeOf_eq, hp]
    rfl
  have hevent : (s.setOutcome j n cause.outcome).event n = some (e.setOutcome j cause.outcome) :=
    s.event_updateEvent _ (fun x => x.setOutcome_serial j _) he
  have hreport (u : State) (hu : u.event n = some (e.setOutcome j cause.outcome)) :
      u.reportAlert j n .withdrawn = u.untrack j n :=
    u.reportAlert_withdrawn_of_final j n hu (by rw [Event.outcome_setOutcome_self, Cause.outcome_final])
  rw [State.takenBack, State.leave, hr, hresolve, State.report_holder, hreport,
    ← Cause.outcome_eq, State.tookBack]
  · simp [State.untrack_eq, State.setSlot, State.countOutcome, State.setOutcome, State.updateEvent, Alerts.untracked,
      Event.withOutcome_eq, AlertCounters.increased_eq]
  · exact hevent

/-- A withdrawal takes the pending request of a record back. -/
theorem State.withdraw_takesBack {j : AlertKind} {n : BitVec 8} (cause : Cause) {e : Event} (he : s.event n = some e)
    (hp : e.outcomeOf j = .pending) :
    s.takesBack (s.withdraw j n cause) j n cause (if cause = .yield then .yielded else .lapsed) := by
  refine ⟨fun r h hr => ?_, fun f r h hf hr => ?_, fun f w h hf => s.withdraw_of_inFlight cause h hf,
    s.withdraw_of_notHeld cause⟩
  · rw [s.withdraw_of_ready cause h hr]
    exact s.takenBack_tookBack cause _ he hp hr
  · rw [s.withdraw_of_waiting cause h hf hr]
    exact s.takenBack_tookBack cause _ he hp hr

/-- Settles O28: the tests of a returning frame in their order, and the places where a withdrawal finds its request. -/
theorem framesReturnOrAreWithdrawn : Obligations.FramesReturnOrAreWithdrawn := by
  refine ⟨fun s k f r w lost h hr => ?_, fun s j n cause f r w => ?_, fun s j e cause he hp =>
    s.withdraw_takesBack cause he hp⟩
  · have hkept : r.mark = f.mark ∧ r.ref = f.ref ∧ r.deadline = f.deadline := by
      subst hr
      cases lost <;> exact ⟨rfl, rfl, rfl⟩
    obtain ⟨hmark, href, hdeadline⟩ := hkept
    rw [← hmark, ← href, ← hdeadline]
    refine ⟨fun hm => ?_, fun x hm hw => ?_, fun d hm hw hd hreached => ?_, fun hm hw hlater => ?_⟩
    · rw [s.returned_of_marked hr h hm]
      cases w <;> exact s.setSlot_leave_told k _ r _
    · subst hw
      rw [s.returned_of_superseded hr h hm]
      exact s.setSlot_leave_told k _ r _
    · subst hw
      rw [s.returned_alone hr h hm, if_pos ((r.expired_iff _).mpr ⟨d, hd, hreached⟩)]
      exact s.setSlot_leave_told k _ r _
    · subst hw
      rw [s.returned_alone hr h hm, if_neg (Bool.eq_false_iff.mp ((r.expired_eq_false_iff _).mpr hlater))]
      rfl
  · refine ⟨fun h hr => ?_, fun h hf hr => ?_, fun h hf => s.withdraw_of_inFlight cause h hf,
      fun h => s.withdraw_of_notHeld cause (.inl h)⟩
    · rw [s.withdraw_of_ready cause h hr, State.takenBack_sched]
    · rw [s.withdraw_of_waiting cause h hf hr, State.takenBack_sched]

end Sys2Proof.Machine

/-! ## Requests of the coincidence unit that raise, fold and close (R121, R130, R131, R133, R134, R138, R139, R149,
R152, R156, R182) -/

namespace Sys2Proof.Machine

variable (s : State)

/-! ### A request that is taken (R121) -/

/-- What the command of a waiting request does with it, once it is off the list. -/
def CoRequest.take : CoRequest → State → State
  | .vote source n onset, s => (s.takeVote n onset).doneFor source
  | .heardAlert _ body, s => (s.hearAlert body).release
  | .heardRaise _ body, s => (s.hearRaise body).release
  | .peak source n onset p, s => (s.takePeak n onset p).doneFor source
  | .closing serial, s => s.takeClosing serial
  | .raiseSent serial, s => s.takeRaiseSent serial

/-- The state with the oldest request off its list. -/
def State.requestTaken (rest : List CoRequest) : State := { s with co := { s.co with waiting := rest } }

/-- The command of its kind takes the oldest waiting request. -/
theorem exec_request {r : CoRequest} {rest : List CoRequest} (h : s.takesRequest r rest) :
    exec r.instr s = .next (r.take (s.requestTaken rest)) := by
  obtain ⟨hs, hp, hw⟩ := h
  have hready : s.requestReady r.instr = true := by
    simp [State.requestReady, State.isRunning, State.nextRequest, hp, hw]
  have hnext : s.nextRequest = some r := by simp [State.nextRequest, hw]
  have hpop : s.popRequest = s.requestTaken rest := by simp [State.popRequest, State.requestTaken, hw]
  have hcase {effect : State → State}
      (hexec : exec r.instr s = carryOut (fun s => s.requestReady r.instr) effect s)
      (heffect : effect s = r.take (s.requestTaken rest)) : exec r.instr s = .next (r.take (s.requestTaken rest)) := by
    rw [hexec, carryOut_of s _ _ hs hready, heffect]
  cases r with
  | vote => exact hcase (exec_vote s) (by rw [hnext, hpop]; rfl)
  | heardAlert => exact hcase (exec_heardAlert s) (by rw [hnext, hpop]; rfl)
  | heardRaise => exact hcase (exec_heardAlertRaise s) (by rw [hnext, hpop]; rfl)
  | peak => exact hcase (exec_peakRequest s) (by rw [hnext, hpop]; rfl)
  | closing => exact hcase (exec_closingExpiry s) (by rw [hnext, hpop]; rfl)
  | raiseSent => exact hcase (exec_raiseSent s) (by rw [hnext, hpop]; rfl)

theorem State.doneFor_eq (source : Source) : s.doneFor source = { s with peers := s.peers.doneFor source } := by
  cases source <;> rfl

theorem State.updateEvent_eq (n : BitVec 8) (f : Event → Event) : s.updateEvent n f =
    { s with co := { s.co with events := s.co.events.map (fun x => if x.serial = n then f x else x) } } := by
  simp [State.updateEvent]

/-! ### Heard raises (R134, R138, R152) -/

theorem Heard.badOrigin_iff (body : List Byte) : (readHeard body).badOrigin = true ↔
    13 < field body 7 1 % 16 ∨ 10000000 ≤ (stampAt body 0).sub := by
  simp [Heard.badOrigin, readHeard, bitsOf, Time.inSecond, secondCycles]

theorem foldPeak_eq (p : Option Nat) (x : Nat) : foldPeak p x = match p with
    | none => some x
    | some y => some (max y x) := by
  cases p <;> rfl

/-- A record that a heard raise has matched (R138). -/
def Event.raised (peak : Nat) (e : Event) : Event := { e with level := 2, peak := foldPeak e.peak peak }

section hearRaise

variable {body : List Byte}

theorem State.hearRaise_of_malformed (h : (readHeard body).badOrigin = true) :
    s.hearRaise body = s.countMalformed := by
  simp only [State.hearRaise, h, if_true]

theorem State.hearRaise_of_unmatched (h : (readHeard body).badOrigin = false)
    (hn : s.matching (readHeard body).origin = none) :
    s.hearRaise body = s.mapCoCounters (fun c => { c with unmatchedRaises := bump16 c.unmatchedRaises }) := by
  simp [State.hearRaise, h, hn]

theorem State.hearRaise_of_matched {e : Event} (h : (readHeard body).badOrigin = false)
    (hm : s.matching (readHeard body).origin = some e) :
    s.hearRaise body = (s.updateEvent e.serial (Event.raised (readHeard body).peak)).raiseMatched e.serial := by
  simp only [State.hearRaise, h, hm]
  rfl

end hearRaise

section raiseMatched

variable {n : BitVec 8} {e : Event} (he : s.event n = some e)

include he

theorem State.raiseMatched_of_pending (h : e.raiseOutcome = .pending) :
    s.raiseMatched n = s.withdraw .raise n .yield := by
  simp only [State.raiseMatched, he, h]

theorem State.raiseMatched_of_not_pending (h : e.raiseOutcome ≠ .pending) : s.raiseMatched n = s := by
  cases ho : e.raiseOutcome with
  | pending => exact absurd ho h
  | _ => simp only [State.raiseMatched, he, ho]

end raiseMatched

/-- What the withdrawal does is not the peer table's. -/
theorem State.takesBack_release {s t : State} {j : AlertKind} {n : BitVec 8} {cause : Cause} {o : AlertOutcome}
    (h : s.takesBack t j n cause o) : s.release.takesBack t.release j n cause o := by
  obtain ⟨hready, hwaiting, hflight, hnone⟩ := h
  exact ⟨fun r hslot hr => congrArg State.release (hready r hslot hr),
    fun f r hslot hf hr => congrArg State.release (hwaiting f r hslot hf hr),
    fun f w hslot hf => congrArg State.release (hflight f w hslot hf),
    fun hslot => congrArg State.release (hnone hslot)⟩

/-! ### Peaks (R133) -/

theorem State.takePeak_of_held {e : Event} {n : Station} {onset : Time} (peak : Nat) (h : s.openEvent = some e)
    (hm : e.members[n.val] = some onset) :
    s.takePeak n onset peak = s.updateEvent e.serial (fun e => { e with peak := foldPeak e.peak peak }) := by
  simp [State.takePeak, h, Event.holds, hm]

theorem State.takePeak_of_not_held {n : Station} {onset : Time} (peak : Nat)
    (h : ∀ e, s.openEvent = some e → e.members[n.val] ≠ some onset) : s.takePeak n onset peak = s := by
  cases ho : s.openEvent with
  | none => simp only [State.takePeak, ho]
  | some e => simp [State.takePeak, ho, Event.holds, h e ho]

/-- Settles O45: a heard raise by what it matches, then the two reports to a record. -/
theorem raisesAndPeaksReachTheirRecord : Obligations.RaisesAndPeaksReachTheirRecord := by
  refine ⟨fun s sender body rest origin peak h horigin hpeak => ?_, fun s rest =>
    ⟨fun source n onset peak h => ⟨fun e ho hm => ?_, fun hm => ?_⟩, fun serial h => ?_⟩⟩
  · obtain rfl : origin = stampAt body 0 := horigin
    obtain rfl : peak = (readHeard body).peak := hpeak
    have hexec : exec .heardAlertRaise s = .next ((s.requestTaken rest).hearRaise body).release := exec_request s h
    refine ⟨fun hbad => ?_, fun hstation hsub => ?_⟩
    · rw [hexec, State.hearRaise_of_malformed _ ((Heard.badOrigin_iff body).mpr hbad)]
      rfl
    · have hgood : (readHeard body).badOrigin = false := by
        rw [← Bool.not_eq_true, Heard.badOrigin_iff]
        omega
      refine ⟨fun hnone => ?_, fun e events hmatch he hevents => ?_⟩
      · rw [hexec, (s.requestTaken rest).hearRaise_of_unmatched hgood hnone]
        rfl
      · rw [(s.requestTaken rest).hearRaise_of_matched hgood hmatch] at hexec
        have he' := (s.requestTaken rest).event_updateEvent (Event.raised (readHeard body).peak) (fun _ => rfl) he
        have hrecords : (s.requestTaken rest).updateEvent e.serial (Event.raised (readHeard body).peak) =
            { s with co := { s.co with waiting := rest, events := events } } := by
          rw [State.updateEvent_eq, hevents]
          simp only [Event.raised, foldPeak_eq]
          rfl
        rw [hrecords] at hexec he'
        refine ⟨fun hp => ?_, fun hp => ⟨_, hexec, ?_⟩⟩
        · rw [hexec, State.raiseMatched_of_not_pending _ he' hp]
          rfl
        · rw [State.raiseMatched_of_pending _ he' hp]
          exact State.takesBack_release (State.withdraw_takesBack _ (j := .raise) .yield he' hp)
  · refine (exec_request s h).trans (congrArg _ ?_)
    rw [CoRequest.take, (s.requestTaken rest).takePeak_of_held peak ho hm, State.updateEvent_eq, State.doneFor_eq]
    simp only [foldPeak_eq]
    rfl
  · refine (exec_request s h).trans (congrArg _ ?_)
    rw [CoRequest.take, (s.requestTaken rest).takePeak_of_not_held peak hm, State.doneFor_eq]
    rfl
  · refine (exec_request s h).trans (congrArg _ ?_)
    rw [CoRequest.take, State.takeRaiseSent, State.updateEvent_eq]
    rfl

/-! ### What a closing makes of the outcomes (R149) -/

theorem State.clearDeferenceOf_eq (n : BitVec 8) : s.clearDeferenceOf n = { s with alerts := { s.alerts with
    deference := s.alerts.deference.filter (fun d => decide (d.serial ≠ n)) } } := by
  have hset {x : Option Deference} (hx : s.alerts.deference = x) :
      s = { s with alerts := { s.alerts with deference := x } } := by
    rw [← hx]
  rw [State.clearDeferenceOf]
  cases h : s.alerts.deference with
  | none => exact hset h
  | some d =>
    by_cases hd : d.serial = n
    · simp [hd, State.clearDeference, Option.filter]
    · simpa [hd, Option.filter] using hset h

section closed

variable {n : BitVec 8} {e : Event} (he : s.event n = some e)

include he

theorem State.closeAlert_of_deferring (h : e.alertOutcome = .deferring) : s.closeAlert n = { s with
    co := { s.co with events := s.co.events.map (fun x =>
      if x.serial = n then { x with alertOutcome := .lapsed } else x) }
    alerts := { s.alerts with
      deference := s.alerts.deference.filter (fun d => decide (d.serial ≠ n))
      counters := { s.alerts.counters with alertsLapsed := min (s.alerts.counters.alertsLapsed + 1) 65535 } } } := by
  have hopen : ∀ x, (s.clearDeferenceOf n).event n = some x → (x.outcome .alert).final = false := by
    rw [State.clearDeferenceOf_eq]
    intro x hx
    obtain rfl : e = x := Option.some.inj (he.symm.trans hx)
    rw [show e.outcome .alert = .deferring from h]
    rfl
  simp only [State.closeAlert, he, h]
  rw [State.resolve_of_open _ .alert n .lapsed hopen, State.setOutcome, State.updateEvent_eq, State.clearDeferenceOf_eq]
  rfl

theorem State.closeAlert_of_pending (h : e.alertOutcome = .pending) : s.closeAlert n = s.withdraw .alert n .lapse := by
  simp only [State.closeAlert, he, h]

theorem State.closeAlert_of_other (hd : e.alertOutcome ≠ .deferring) (hp : e.alertOutcome ≠ .pending) :
    s.closeAlert n = s := by
  cases ho : e.alertOutcome with
  | deferring => exact absurd ho hd
  | pending => exact absurd ho hp
  | _ => simp only [State.closeAlert, he, ho]

theorem State.closeRaise_of_pending (h : e.raiseOutcome = .pending) : s.closeRaise n = s.withdraw .raise n .lapse := by
  simp only [State.closeRaise, he, h]

theorem State.closeRaise_of_not_pending (h : e.raiseOutcome ≠ .pending) : s.closeRaise n = s := by
  cases ho : e.raiseOutcome with
  | pending => exact absurd ho h
  | _ => simp only [State.closeRaise, he, ho]

end closed

/-- A pending request that is withdrawn is held nowhere, taken back, or marked in flight. -/
theorem State.takesBack_cases {s t : State} {j : AlertKind} {n : BitVec 8} {cause : Cause} {o : AlertOutcome}
    (h : s.takesBack t j n cause o) : t = s ∨ (∃ r left, s.tookBack t j n r left o) ∨
    ∃ slots tracking, t = { s with
      sched := { s.sched with slots := slots }, alerts := { s.alerts with tracking := tracking } } := by
  obtain ⟨hready, hwaiting, hflight, hnone⟩ := h
  cases hslot : s.sched.slots.get j.holder with
  | empty => exact .inl (hnone (.inl hslot))
  | ready r =>
    by_cases hr : r.ref = .serial n
    · exact .inr (.inl ⟨r, .empty, hready r hslot hr⟩)
    · exact .inl (hnone (.inr (.inl ⟨r, hslot, hr⟩)))
  | inFlight f w =>
    by_cases hf : f.ref = .serial n
    · exact .inr (.inr ⟨_, _, hflight f w hslot hf⟩)
    by_cases hw : ∀ r, w = some r → r.ref ≠ .serial n
    · exact .inl (hnone (.inr (.inr ⟨f, w, hslot, hf, hw⟩)))
    · push Not at hw
      obtain ⟨r, rfl, hr⟩ := hw
      exact .inr (.inl ⟨r, .inFlight f none, hwaiting f r hslot hf hr⟩)

/-- The withdrawal changes no record, or this outcome alone, and nothing of the heater controller. -/
theorem State.takesBack_events {s t : State} {j : AlertKind} {n : BitVec 8} {cause : Cause} {o : AlertOutcome}
    (h : s.takesBack t j n cause o) :
    (t.co.events = s.co.events ∨ t.co.events = (s.setOutcome j n o).co.events) ∧ t.heater = s.heater := by
  obtain rfl | ⟨r, left, htook⟩ | ⟨slots, tracking, rfl⟩ := State.takesBack_cases h
  · exact ⟨.inl rfl, rfl⟩
  · rw [htook, State.setOutcome, State.updateEvent_eq]
    simp [Event.withOutcome_eq]
  · exact ⟨.inl rfl, rfl⟩

/-- Resolving the alert outcome of a closing record leaves its raise outcome. -/
theorem State.closeAlert_event {n : BitVec 8} {e : Event} (he : s.event n = some e) :
    ∃ x, (s.closeAlert n).event n = some x ∧ x.raiseOutcome = e.raiseOutcome := by
  have hset (o : AlertOutcome) : (s.setOutcome .alert n o).event n = some (e.setOutcome .alert o) :=
    s.event_updateEvent _ (fun x => x.setOutcome_serial .alert o) he
  have hof {t : State} (h : t.co.events = (s.setOutcome .alert n .lapsed).co.events) :
      ∃ x, t.event n = some x ∧ x.raiseOutcome = e.raiseOutcome :=
    ⟨_, (congrArg (List.find? _) h).trans (hset .lapsed), rfl⟩
  have hsame {t : State} (h : t.co.events = s.co.events) : ∃ x, t.event n = some x ∧ x.raiseOutcome = e.raiseOutcome :=
    ⟨e, (congrArg (List.find? _) h).trans he, rfl⟩
  by_cases hd : e.alertOutcome = .deferring
  · rw [s.closeAlert_of_deferring he hd]
    refine hof ?_
    rw [State.setOutcome, State.updateEvent_eq]
    rfl
  by_cases hp : e.alertOutcome = .pending
  · rw [s.closeAlert_of_pending he hp]
    obtain ⟨hevents | hevents, -⟩ := State.takesBack_events (s.withdraw_takesBack (j := .alert) .lapse he hp)
    · exact hsame hevents
    · exact hof hevents
  · rw [s.closeAlert_of_other he hd hp]
    exact hsame rfl

/-! ### Closing (R130, R131) -/

/-- A record that closes has its open flag cleared, its alert outcome resolved, and then its raise outcome. -/
theorem State.closeRecord_closes {e : Event} (he : s.event e.serial = some e) :
    s.closes (s.closeRecord e.serial) e := by
  have hc := s.event_updateEvent (fun x => { x with isOpen := false }) (fun _ => rfl) he
  obtain ⟨x, hx, hraise⟩ := State.closeAlert_event _ hc
  refine ⟨_, _, s.updateEvent_eq e.serial (fun x => { x with isOpen := false }),
    fun hd => State.closeAlert_of_deferring _ hc hd, fun hp => ?_,
    fun hd hp => State.closeAlert_of_other _ hc hd hp, fun hp => ?_, fun hp => ?_⟩
  · rw [State.closeAlert_of_pending _ hc hp]
    exact State.withdraw_takesBack _ .lapse hc hp
  · have hp' : x.raiseOutcome = .pending := hraise.trans hp
    rw [State.closeRecord, State.alertClosed, State.closeRaise_of_pending _ hx hp']
    exact State.withdraw_takesBack _ .lapse hx hp'
  · have hp' : x.raiseOutcome ≠ .pending := fun h => hp (hraise.symm.trans h)
    exact State.closeRaise_of_not_pending _ hx hp'

theorem State.closes_heater {s v : State} {e : Event} (h : s.closes v e) : v.heater = s.heater := by
  obtain ⟨c, u, hc, hdeferring, hpending, hother, hraise, hnoRaise⟩ := h
  have hu : u.heater = c.heater := by
    by_cases hd : e.alertOutcome = .deferring
    · rw [hdeferring hd]
    by_cases hp : e.alertOutcome = .pending
    · exact (State.takesBack_events (hpending hp)).2
    · rw [hother hd hp]
  have hv : v.heater = u.heater := by
    by_cases hp : e.raiseOutcome = .pending
    · exact (State.takesBack_events (hraise hp)).2
    · rw [hnoRaise hp]
  rw [hv, hu, hc]

theorem State.noticeEvent_eq (on : Bool) : s.noticeEvent on = { s with heater := (s.noticeEvent on).heater } := by
  have hframe := s.noticeEvent_frame on
  generalize s.noticeEvent on = t at hframe ⊢
  cases t
  simp_all

theorem State.takeClosing_of_closed {n : BitVec 8} {e : Event} (he : s.event n = some e) (h : e.isOpen = false) :
    s.takeClosing n = s := by
  simp [State.takeClosing, he, h]

theorem State.takeClosing_of_open {n : BitVec 8} {e : Event} (he : s.event n = some e) (h : e.isOpen = true) :
    s.takeClosing n = (s.closeRecord n).stopAnnunciator.noticeEvent false := by
  simp only [State.takeClosing, he, h, if_true]

theorem State.closingDue_of {e : Event} (ho : s.openEvent = some e)
    (hreached : 0 ≤ s.clock.time.diff (e.declaredAt.add (10000000 * s.loader.profile.E : Nat)))
    (hw : CoRequest.closing e.serial ∉ s.co.waiting) : s.closingDue = some e.serial := by
  simp only [State.closingDue, ho]
  exact if_pos (by simpa [Time.reached, secondCycles, hw] using hreached)

/-- Settles O46: the closing time, the request it makes, and the closing of a record. -/
theorem eventsCloseAtTheirTime : Obligations.EventsCloseAtTheirTime := by
  refine fun s e => ⟨fun h hp ho hreached hw => ?_, fun rest h he => ?_, fun ho he => ?_⟩
  · have hdue := s.closingDue_of ho hreached hw
    rw [exec_eventClosingTime, carryOut_of s _ _ h (by simp [State.isRunning, hp, hdue])]
    simp only [hdue]
    rfl
  · have hexec : exec .closingExpiry s = .next ((s.requestTaken rest).takeClosing e.serial) := exec_request s h
    have he' : (s.requestTaken rest).event e.serial = some e := he
    refine ⟨fun hclosed => ?_, fun hopen => ?_⟩
    · rw [hexec, State.takeClosing_of_closed _ he' hclosed]
      rfl
    · rw [State.takeClosing_of_open _ he' hopen] at hexec
      have hcloses := (s.requestTaken rest).closeRecord_closes he'
      have hheater : ((s.requestTaken rest).closeRecord e.serial).heater = s.heater :=
        (State.closes_heater hcloses :)
      refine ⟨_, _, hcloses, hexec, ?_, State.noticeEvent_eventOpen _ _, fun heo ht => ?_, ?_⟩
      · rw [State.noticeEvent_eq]
        rfl
      · rw [State.noticeEvent_release]
        exact if_pos (by simpa [hheater] using ⟨heo, ht⟩)
      · rw [State.noticeEvent_eq]
        rfl
  · have hclose : s.closeOpen = s.closeRecord e.serial := by simp only [State.closeOpen, ho]
    rw [hclose]
    exact s.closeRecord_closes he

end Sys2Proof.Machine

/-! ## The sample port, the elastic store and the ticks (R79 to R88, R92) -/

namespace Sys2Proof.Machine

variable (s : State)

/-! ### The port (R79, R81) -/

theorem State.portOpen_iff : s.portOpen = true ↔ s.loader.phase = .running ∧ s.battery.loadoff = false := by
  simp [State.portOpen, State.isRunning]

theorem Intake.closeFrame_of_open {i : Intake} {n : Nat} (h : i.frame = some n) : i.closeFrame = { i with
    frame := none
    counters := { i.counters with
      incomplete := if n < 72 then min (i.counters.incomplete + 1) 65535 else i.counters.incomplete } } := by
  simp only [Intake.closeFrame, h]
  split
  · rfl
  · rfl

/-- The three values of a set are read back from its 72 bits, Z first. -/
theorem setValues_append (z n e : BitVec 24) : setValues (z ++ n ++ e) = ⟨z.toInt, n.toInt, e.toInt⟩ := by
  have hz : (z ++ n ++ e).extractLsb' 48 24 = z :=
    (BitVec.extractLsb'_append_eq_of_le (by decide)).trans BitVec.extractLsb'_append_eq_left
  have hn : (z ++ n ++ e).extractLsb' 24 24 = n :=
    (BitVec.extractLsb'_append_eq_of_le (by decide)).trans BitVec.extractLsb'_append_eq_right
  have he : (z ++ n ++ e).extractLsb' 0 24 = e := BitVec.extractLsb'_append_eq_right
  simp only [setValues, hz, hn, he]

/-! ### The elastic store (R82, R83, R86) -/

/-- A set enters last; a full store loses its oldest entry, which is counted. -/
theorem Intake.enter_eq (i : Intake) (n : Nat) (x : SetEntry) : i.enter n x = { i with
    store := (if i.store.length < n then i.store else i.store.drop 1) ++ [x]
    counters := { i.counters with
      slipDrops := if i.store.length < n then i.counters.slipDrops else min (i.counters.slipDrops + 1) 65535 } } := by
  unfold Intake.enter
  split
  · rfl
  · rfl

/-- What an arrival makes of the intake's state and of the consecutive-empty count: a stalled intake primes again, and
one that primes runs at half its depth. -/
theorem Intake.afterArrival_eq (i : Intake) (n : Nat) : i.afterArrival n = { i with
    state := match i.state with
      | .priming => if n / 2 ≤ i.store.length then .running else .priming
      | .stalled => .priming
      | .running => .running
    empty := if i.state = .stalled ∨ i.state = .priming ∧ n / 2 ≤ i.store.length then 0 else i.empty } := by
  obtain ⟨_, store, state, _, _, _, _⟩ := i
  cases state with
  | priming => by_cases hhalf : n / 2 ≤ store.length <;> simp [Intake.afterArrival, hhalf]
  | running => simp [Intake.afterArrival]
  | stalled => simp [Intake.afterArrival]

/-! ### The ticks (R83 to R88) -/

/-- A tick point that has just fallen, later than the latest tick, is the one to issue. -/
theorem State.tickDue_of_atTick {p : Time} (hp : s.loader.phase = .running) (h : s.atTick p) : s.tickDue = some p := by
  obtain ⟨hfallen, rfl, hlater⟩ := h
  have hpoint : s.tickPoint = some ⟨s.clock.time.sec, s.clock.time.sub - s.clock.time.sub % 100000⟩ := if_pos hfallen
  have hlast : laterThanLast ⟨s.clock.time.sec, s.clock.time.sub - s.clock.time.sub % 100000⟩ s.intake.latestTick =
      true := by
    cases hq : s.intake.latestTick with
    | none => rfl
    | some q => exact decide_eq_true (hlater q hq)
  simp [State.tickDue, hpoint, hlast, State.isRunning, hp]

theorem exec_tick_of_atTick {p : Time} (h : s.isSettled = true) (hp : s.loader.phase = .running) (hat : s.atTick p) :
    exec .tick s = .next (s.tick p) := by
  have hdue := s.tickDue_of_atTick hp hat
  rw [exec_tick, carryOut_of s _ _ h (by simp [hdue]), hdue]
  rfl

/-- Outside RUNNING a tick delivers nothing (R83, R86). -/
theorem State.tick_of_not_running (p : Time) (h : s.intake.state ≠ .running) :
    s.tick p = { s with intake := { s.intake with latestTick := some p } } := by
  cases hi : s.intake.state with
  | running => exact absurd hi h
  | priming => simp [State.tick, hi, State.mapIntake]
  | stalled => simp [State.tick, hi, State.mapIntake]

/-- A tick delivers the oldest set (R84, R87). -/
theorem State.tick_of_stored (p : Time) {e : SetEntry} {rest : List SetEntry} (h : s.intake.state = .running)
    (hs : s.intake.store = e :: rest) :
    s.tick p = State.handSet { s with intake := { s.intake with
      latestTick := some p, store := rest, last := some ⟨e.values, e.stamp⟩, empty := 0 } }
      ⟨e.values, e.stamp⟩ (decide (e.epoch ≠ s.clock.epoch)) := by
  simp only [State.tick, State.mapIntake, h, hs, State.deliverOldest]

/-- A tick that finds the store empty repeats the last set, 10 ms later (R85). -/
theorem State.tick_of_empty (p : Time) {x : Delivered} (h : s.intake.state = .running) (hs : s.intake.store = [])
    (hx : s.intake.last = some x) :
    s.tick p = State.handSet { s with intake := { s.intake with
      latestTick := some p, last := some ⟨x.values, x.stamp.add 100000⟩, empty := s.intake.empty + 1
      counters := { s.intake.counters with slipRepeats := min (s.intake.counters.slipRepeats + 1) 65535 } } }
      ⟨x.values, x.stamp.add 100000⟩ true := by
  simp only [State.tick, State.mapIntake, h, hs, State.repeatLast, hx, bump16]

/-- Settles O37: the port's frames, the arrival of a set at the elastic store, and what a tick delivers. -/
theorem setsEnterAndLeaveTheStore : Obligations.SetsEnterAndLeaveTheStore := by
  refine ⟨fun s h hp hl => ⟨fun hf => ?_, fun n hf => ?_, fun z n e k x store hf hk hx hstore => ?_⟩,
    fun s p h hp hat => ?_⟩
  · have hopen := s.portOpen_iff.mpr ⟨hp, hl⟩
    exact (exec_portFrameOpen s).trans (carryOut_of s _ _ h (by simp [hopen, hf]))
  · have hopen := s.portOpen_iff.mpr ⟨hp, hl⟩
    rw [exec_portFrameClose, carryOut_of s _ _ h (by simp [hopen, hf]), State.mapIntake, Intake.closeFrame_of_open hf]
  · have hopen := s.portOpen_iff.mpr ⟨hp, hl⟩
    rw [exec_setArrival, carryOut_of s _ _ h (by simp [State.setExpected, hopen, hf, hk])]
    subst hx hstore
    simp only [State.arrive, State.mapIntake, setValues_append, Intake.enter_eq, Intake.afterArrival_eq]
    rfl
  · rw [exec_tick_of_atTick s h hp hat]
    exact ⟨fun hi => congrArg _ (s.tick_of_not_running p hi),
      fun e rest hi hs => congrArg _ (s.tick_of_stored p hi hs),
      fun x hi hs hx => congrArg _ (s.tick_of_empty p hi hs hx)⟩

end Sys2Proof.Machine

/-! ## Trigger ends: the detector's limits, the stall, and the entry to SHED and the exit from it (R81, R86, R94, R101,
R103, R107, R110 to R113, R121, R165 to R169, R181, R182, R184) -/

namespace Sys2Proof.Machine

variable (s : State)

/-! ### When the detector's and the intake's limit steps are due -/

theorem State.warmupOver_iff : s.warmupOver = true ↔
    s.detector.state = .warmup ∧ 2 ^ s.loader.profile.sLong ≤ s.detector.warmup := by
  simp [State.warmupOver]

theorem State.holdoffOver_iff : s.holdoffOver = true ↔
    s.detector.state = .holdoff ∧ s.loader.profile.holdoff * 100 ≤ s.detector.holdoff := by
  simp [State.holdoffOver]

theorem State.durationReached_iff : s.durationReached = true ↔ s.detector.state = .triggered ∧
    ∃ r, s.detector.record = some r ∧ s.loader.profile.maxDuration * 100 ≤ r.duration := by
  cases hr : s.detector.record <;> simp [State.durationReached, hr]

/-- The tenth repeat stalls the intake once its handling, a forced end included, is complete. -/
theorem State.stallDue_iff : s.stallDue = true ↔ s.intake.state = .running ∧ 10 ≤ s.intake.empty ∧
    ∀ r, s.detector.state = .triggered → s.detector.record = some r →
      r.duration < s.loader.profile.maxDuration * 100 := by
  have hduration : s.durationReached = false ↔ ∀ r, s.detector.state = .triggered → s.detector.record = some r →
      r.duration < s.loader.profile.maxDuration * 100 := by
    rw [← Bool.not_eq_true, s.durationReached_iff]
    simp only [not_and, not_exists, not_le]
    exact forall_comm
  simp [State.stallDue, hduration, and_assoc]

theorem State.shedDue_iff : s.shedDue = true ↔ s.battery.stage ≠ .shed ∧ 10 ≤ s.battery.low := by
  simp [State.shedDue]

theorem State.shedOver_iff : s.shedOver = true ↔ s.battery.stage = .shed ∧ 60 ≤ s.battery.recovery := by
  simp [State.shedOver]

/-! ### The halt (R101, R111) -/

/-- With no trigger in progress a halt changes the detector alone. -/
theorem State.halt_of_not_triggered (h : s.detector.state ≠ .triggered) :
    s.halt = { s with detector := { s.detector with state := .halted, warmup := 0, holdoff := 0 } } := by
  cases hd : s.detector.state with
  | triggered => exact absurd hd h
  | halted | warmup | armed | holdoff => simp only [State.halt, hd, State.mapDetector]

/-- A trigger that ends by halt is counted, whatever its record. -/
theorem State.halt_haltedEnds (h : s.detector.state = .triggered) :
    s.halt.detector.counters.haltedEnds = min (s.detector.counters.haltedEnds + 1) 65535 := by
  cases hr : s.detector.record with
  | none => simp [State.halt, h, State.endTrigger, hr, bump16]
  | some r =>
    obtain ⟨-, -, -, hcount⟩ := s.halt_triggered h r hr
    exact hcount

/-- The part with its intake STALLED and the stall counted, before the halt (R86). -/
def State.stalled : State :=
  { s with intake := { s.intake with
      state := .stalled, counters := { s.intake.counters with stalls := min (s.intake.counters.stalls + 1) 65535 } } }

/-- A stall halts the detector, whose run condition is lost. -/
theorem State.stall_eq : s.stall = s.stalled.halt := rfl

/-! ### The forced end (R107, R110) -/

/-- A trigger that ends by force, with the CODA slot empty: L takes S, and the other blocks are told. -/
theorem State.endByForce_tellsEnd {r : TriggerRecord} (hr : s.detector.record = some r)
    (hc : s.sched.slots.coda = .empty) :
    s.endByForce.detector = { s.detector with
      state := if s.loader.profile.holdoff = 0 then .armed else .holdoff, holdoff := 0, L := s.detector.S
      record := some { r with reason := .forced }
      counters := { s.detector.counters with forcedEnds := min (s.detector.counters.forcedEnds + 1) 65535 } } ∧
    s.tellsEnd s.endByForce { r with reason := .forced } ∧
    s.endByForce = { s with
      detector := s.endByForce.detector, peers := s.endByForce.peers, sched := s.endByForce.sched
      co := s.endByForce.co, heater := s.endByForce.heater } := by
  obtain ⟨htells, hframe⟩ := s.endTrigger_tellsEnd .forced r hr hc
  exact ⟨by rw [State.endByForce, hframe]; rfl, htells, by rw [State.endByForce, hframe]; rfl⟩

/-- What a trigger end asks of the CODA slot. -/
theorem State.tellsEnd_slots {t : State} {r : TriggerRecord} {q : Request} (h : s.tellsEnd t r)
    (hq : q = { body := codaBody r, ref := .stamp r.onset, time := s.clock.time, deadline := none, attempts := 0
                capture := none, mark := false }) :
    t.sched.slots = { s.sched.slots with coda := .ready q } := by
  obtain ⟨-, -, -, hsched, -⟩ := h
  rw [hsched q hq]

/-- Settles O40: the ends of warm-up and holdoff, the stall with its halt, and the forced end. -/
theorem detectorLimitsAndStalls : Obligations.DetectorLimitsAndStalls := by
  refine ⟨fun s => ⟨fun hd hw => ?_, fun hd hh => ?_⟩, fun s hi hempty hduration => ?_,
    fun s r0 r hd hr0 hr hlong hc => ?_⟩
  · exact (exec_warmupEnd s).trans (takeLimit_of s _ (s.warmupOver_iff.mpr ⟨hd, hw⟩))
  · exact (exec_holdoffEnd s).trans (takeLimit_of s _ (s.holdoffOver_iff.mpr ⟨hd, hh⟩))
  · have hexec := (exec_stall s).trans (takeLimit_of s _ (s.stallDue_iff.mpr ⟨hi, hempty, hduration⟩))
    have hintake : s.stall.intake = s.stalled.intake := by simp [State.stall_eq]
    refine ⟨s.stall, hexec, s.stalled.halt_state, hintake, fun hd => ?_, fun r hd hr => ?_⟩
    · rw [hintake, State.stall_eq, s.stalled.halt_of_not_triggered hd]
      rfl
    · obtain ⟨hrecord, hflag, hpeak, hcount⟩ := s.stalled.halt_triggered hd r hr
      refine ⟨hrecord, hflag, hpeak, hcount, fun hc => ?_⟩
      obtain ⟨hdetector, htells, hframe⟩ := s.stalled.halt_tellsEnd hd r hr hc
      exact ⟨hdetector, htells, by rw [hintake]; exact hframe⟩
  · subst hr
    have hdue := s.durationReached_iff.mpr ⟨hd, r0, hr0, hlong⟩
    obtain ⟨hdetector, htells, hframe⟩ := s.endByForce_tellsEnd hr0 hc
    exact ⟨_, _, (exec_forcedEnd s).trans (takeLimit_of s _ hdue), rfl, hdetector, s.tellsEnd_slots htells rfl, htells,
      hframe⟩

/-! ### The allocation of a stage notice (R169, R181, R184) -/

/-- An allocation changes the heater controller alone. -/
theorem State.allocate_eq : s.allocate = { s with heater := s.allocate.heater } := rfl

theorem State.allocate_reallocates : s.reallocates s.allocate.heater := ⟨rfl, s.allocate_heater⟩

theorem State.allocate_computationDue : s.allocate.heater.computationDue = s.heater.computationDue := by
  rw [s.allocate_heater]

/-- In RESERVE and in SHED there is no heat to give, and no output is driven. -/
theorem State.allocate_without_heat (h : s.battery.stage = .reserve ∨ s.battery.stage = .shed) :
    s.allocate.heater.budget = 0 ∧ s.allocate.heater.out0 = false ∧ s.allocate.heater.out1 = false := by
  rcases h with h | h <;>
    simp [State.allocate, State.followHeaters, State.stageBudget, State.heat0Level, State.heat1Level,
      State.heatersAllowed, h]

/-- What a trigger end has told stands after an allocation. -/
theorem State.tellsEnd_allocate {t : State} {r : TriggerRecord} (h : s.tellsEnd t r) : s.tellsEnd t.allocate r := by
  obtain ⟨hattached, hother, hco, hsched, htriggered, hevent, hhold⟩ := h
  have hheater := t.allocate_heater
  exact ⟨hattached, hother, hco, hsched, by rw [hheater, htriggered], by rw [hheater, hevent], by rw [hheater, hhold]⟩

/-! ### Entry to SHED and exit from it (R165 to R169) -/

/-- The battery monitor after the entry to SHED (R165, R167, R168, R169). -/
def Battery.shed (b : Battery) (capacity : Nat) : Battery :=
  { b with
    Q := min b.Q (3600 * capacity / 10), low := 0, recovery := 0, stage := .shed, loadoff := true, chgen := false
    counters := { b.counters with
      shedEntries := min (b.counters.shedEntries + 1) 65535, stageChanges := min (b.counters.stageChanges + 1) 65535 } }

/-- The part at the entry to SHED, with the port closed, before the halt. -/
def State.unloaded : State :=
  { s with battery := s.battery.shed s.loader.profile.capacity, intake := { s.intake with frame := none } }

theorem State.enterShed_eq : s.enterShed = s.unloaded.halt.allocate := rfl

/-- CHGEN after the exit from SHED, by the battery temperature (R168). -/
theorem State.leaveShed_chgen : s.leaveShed.battery.chgen = true ↔ s.battery.batteryFault = false ∧
    ∃ x, s.battery.batteryTemp = some x ∧ s.loader.profile.chargeMin ≤ x ∧ x ≤ s.loader.profile.chargeMax := by
  have hallowed : s.leaveShed.battery.chgen =
      ({ s with battery := { s.battery with stage := .reserve } } : State).chargeAllowed := rfl
  rw [hallowed, State.chargeAllowed_iff]
  simp

theorem State.leaveShed_battery : s.leaveShed.battery = { s.battery with
    recovery := 0, loadoff := false, stage := .reserve, chgen := s.leaveShed.battery.chgen
    counters := { s.battery.counters with stageChanges := min (s.battery.counters.stageChanges + 1) 65535 } } := rfl

/-- The exit from SHED allocates the heat of RESERVE. -/
theorem State.leaveShed_eq : s.leaveShed = ({ s with battery := s.leaveShed.battery } : State).allocate := rfl

/-- Settles O50: the entry to SHED, with the halt and the trigger end that it brings, and the exit to RESERVE. -/
theorem shedIsEnteredAndLeft : Obligations.ShedIsEnteredAndLeft := by
  refine ⟨fun s hstage hlow => ?_, fun s hstage hrecovery => ?_⟩
  · have hshed : s.unloaded.halt.battery.stage = .shed := by simp [State.unloaded, Battery.shed]
    obtain ⟨hbudget, hout0, hout1⟩ := s.unloaded.halt.allocate_without_heat (.inr hshed)
    have hbattery : s.enterShed.battery = s.battery.shed s.loader.profile.capacity := by
      simp [State.enterShed_eq, State.unloaded]
    have hintake : s.enterShed.intake = { s.intake with frame := none } := by
      simp [State.enterShed_eq, State.unloaded]
    refine ⟨s.enterShed, (exec_shedEntry s).trans (takeLimit_of s _ (s.shedDue_iff.mpr ⟨hstage, hlow⟩)), hbattery,
      hintake, by simp [State.enterShed_eq], hbudget, hout0, hout1, by simp, by simp, by simp, fun hd => ?_,
      fun hd => ?_, fun r hd hr => ?_⟩
    · rw [hbattery, State.enterShed_eq, s.unloaded.halt_of_not_triggered hd]
      exact ⟨rfl, State.allocate_reallocates _, State.allocate_computationDue _, rfl⟩
    · exact s.unloaded.halt_haltedEnds hd
    · obtain ⟨hrecord, hflag, hpeak, -⟩ := s.unloaded.halt_triggered hd r hr
      refine ⟨hrecord, by rw [State.enterShed_eq, State.allocate_heater, hflag], hpeak, fun hc => ?_⟩
      obtain ⟨hdetector, htells, hframe⟩ := s.unloaded.halt_tellsEnd hd r hr hc
      exact ⟨hdetector, State.tellsEnd_allocate _ htells, by
        rw [hbattery, hintake, State.enterShed_eq, State.allocate_eq, hframe]; rfl⟩
  · have hexec := (exec_shedExit s).trans (takeLimit_of s _ (s.shedOver_iff.mpr ⟨hstage, hrecovery⟩))
    obtain ⟨hbudget, hout0, hout1⟩ :=
      ({ s with battery := s.leaveShed.battery } : State).allocate_without_heat (.inl rfl)
    exact ⟨s.leaveShed, hexec, s.leaveShed_battery, s.leaveShed_chgen, hbudget, hout0, hout1,
      State.allocate_reallocates _, State.allocate_computationDue _, s.leaveShed_eq⟩

end Sys2Proof.Machine

/-! ## The detector's sets: the arithmetic, the onset set, and the sets of a trigger (R94 to R100, R102 to R109, R112,
R113, R121, R151, R182) -/

namespace Sys2Proof.Machine

variable (s : State)

/-! ### The arithmetic of a set (R95 to R100) -/

theorem onTest_iff (p : Profile) (S L : Nat) :
    onTest p S L = true ↔ p.rOn * max L (p.floor * 256) ≤ 16 * S :=
  decide_eq_true_iff

theorem offTest_iff (p : Profile) (S L : Nat) :
    offTest p S L = true ↔ 16 * S < p.rOff * max L (p.floor * 256) :=
  decide_eq_true_iff

/-- The model's characteristic and averages after a set are those of R95 to R100. -/
theorem State.arithmetic_updateAverages {v : Sample} {d : Detector} {c : Nat}
    (hd : s.detector.updateDc s.profile v = d) (hc : d.characteristic s.profile v = c) :
    s.arithmetic v (d.updateAverages s.profile c) c := by
  subst hd
  refine ⟨rfl, rfl, rfl, hc.symm, average_eq _ _ _, fun hmoves => ?_, fun hw ha => ?_, rfl⟩
  · rw [← average_eq]
    rcases hmoves with h | h <;> simp [Detector.updateAverages, Detector.updateDc, DetectorState.movesL, h]
  · cases h : s.detector.state with
    | warmup => exact absurd h hw
    | armed => exact absurd h ha
    | halted | triggered | holdoff =>
      simp [Detector.updateAverages, Detector.updateDc, DetectorState.movesL, h]

/-- The arithmetic of a set determines its characteristic, the estimates, the averages and the ratio. -/
theorem State.arithmetic_unique {s : State} {v : Sample} {d d' : Detector} {c c' : Nat} (h : s.arithmetic v d c)
    (h' : s.arithmetic v d' c') : c = c' ∧ s.detector.averaged d = s.detector.averaged d' := by
  obtain ⟨hz, hn, he, hc, hS, hL, hLstays, hratio⟩ := h
  obtain ⟨hz', hn', he', hc', hS', hL', hLstays', hratio'⟩ := h'
  have ez : d.dcZ = d'.dcZ := hz.trans hz'.symm
  have en : d.dcN = d'.dcN := hn.trans hn'.symm
  have ee : d.dcE = d'.dcE := he.trans he'.symm
  have ec : c = c' := by rw [hc, hc', ez, en, ee]
  have eS : d.S = d'.S := Int.ofNat_inj.mp (by rw [hS, hS', ec])
  have eL : d.L = d'.L := by
    by_cases hmoves : s.detector.state = .warmup ∨ s.detector.state = .armed
    · exact Int.ofNat_inj.mp (by rw [hL hmoves, hL' hmoves, ec])
    · obtain ⟨hw, ha⟩ := not_or.mp hmoves
      rw [hLstays hw ha, hLstays' hw ha]
  have eratio : d.ratio = d'.ratio := by rw [hratio, hratio', eS, eL]
  exact ⟨ec, by rw [Detector.averaged, ez, en, ee, eS, eL, eratio]; rfl⟩

/-- The part with the estimates, the averages and the ratio of a detector, before the action of the state. -/
def State.averaged (d : Detector) : State := { s with detector := s.detector.averaged d }

section handSet

variable {s : State} {x : Delivered} {d : Detector} {c : Nat} (hi : s.intake.state = .running)
  (hb : s.battery.stage ≠ .shed)

include hi hb

/-- A set handed to a detector that is not halted: the arithmetic, then the state's action (R94). -/
theorem State.handSet_of_arithmetic (inexact : Bool) (hd : s.detector.state ≠ .halted)
    (h : s.arithmetic x.values d c) : s.handSet x inexact = (s.averaged d).actOnSet x.stamp inexact c := by
  rw [s.handSet_of_running x inexact hi hb hd]
  obtain ⟨rfl, havg⟩ := State.arithmetic_unique h (s.arithmetic_updateAverages rfl rfl)
  rw [State.averaged, havg]
  rfl

/-- A set handed to a halted detector seeds it, and is then handled as in WARMUP (R102). -/
theorem State.handSet_of_halted (inexact : Bool) (hd : s.detector.state = .halted) :
    s.handSet x inexact = (s.mapDetector (fun d => d.seed s.profile x.values)).handSet x inexact := by
  have hrun : s.runCondition = true := by simp [State.runCondition, hi, hb]
  have hrun' : (s.mapDetector (fun d => d.seed s.profile x.values)).runCondition = true := hrun
  simp only [State.handSet, hrun, hrun', hd, if_true]
  rfl

end handSet

/-! ### The first set of warm-up (R102) -/

/-- A seeded estimate stands under the value that seeded it. -/
theorem estimateAfter_seed (on : Bool) (m x : Int) :
    estimateAfter on (if on then x * 256 else m) x = if on then x * 256 else m := by
  cases on <;> simp [estimateAfter]

theorem magnitude_seed (on : Bool) (m x : Int) : magnitude on (if on then x * 256 else m) x = 0 := by
  cases on <;> simp [magnitude]

/-- The set that seeds the estimates deviates from none of them, and leaves both averages at 0. -/
theorem State.arithmetic_seed (v : Sample) :
    (s.mapDetector (fun d => d.seed s.profile v)).arithmetic v
      { s.detector.seed s.profile v with ratio := if s.loader.profile.floor = 0 then 255 else 0 } 0 := by
  refine ⟨(estimateAfter_seed _ _ _).symm, (estimateAfter_seed _ _ _).symm, (estimateAfter_seed _ _ _).symm, ?_, ?_,
    fun _ => ?_, fun _ _ => rfl, ?_⟩
  · simp [Detector.seed, magnitude_seed]
  · simp [Detector.seed]
  · simp [Detector.seed]
  · simp [Detector.seed]

/-! ### Requests and the detector (R114) -/

/-- A report changes, of the detector, the counters alone. -/
theorem State.report_detector_counters (k : TxKind) (ref : Ref) (o : SendOutcome) : (s.report k ref o).detector =
    { s.detector with counters := (s.report k ref o).detector.counters } := by
  by_cases ho : o = .superseded
  · subst ho
    obtain ⟨-, -, hother, -⟩ := s.report_other k ref .superseded
    cases k with
    | onset | coda => rfl
    | _ => rw [hother (by simp) (by simp)]
  · rw [s.report_detector k ref o ho]

/-- A request changes, of the detector, the counters alone. -/
theorem State.request_detector_counters (k : TxKind) (body : List Byte) (ref : Ref) (time : Time)
    (deadline : Option Time) : (s.request k body ref time deadline).detector =
      { s.detector with counters := (s.request k body ref time deadline).detector.counters } := by
  obtain ⟨v, heq | ⟨old, heq⟩⟩ := s.request_cases k body ref time deadline
  · rw [heq]
    rfl
  · rw [heq]
    exact State.report_detector_counters _ k old.ref .superseded

/-! ### The onset set (R104 to R106) -/

theorem State.noticeTriggered_eq (on : Bool) :
    s.noticeTriggered on = { s with heater := (s.noticeTriggered on).heater } := by
  have hframe := s.noticeTriggered_frame on
  generalize s.noticeTriggered on = t at hframe ⊢
  cases t
  simp_all

/-- An onset leaves the averages, whatever the ONSET slot holds. -/
theorem State.onset_averages (stamp : Time) (inexact : Bool) (c : Nat) :
    (s.onset stamp inexact c).detector.S = s.detector.S ∧ (s.onset stamp inexact c).detector.L = s.detector.L := by
  simp only [State.onset, State.noticeTriggered_frame, State.askCo]
  rw [State.request_detector_counters]
  exact ⟨rfl, rfl⟩

/-- The part at an onset with the ONSET slot empty, before the heater controller's notice. -/
def State.triggeredWith (r : TriggerRecord) : State := { s with
  detector := { s.detector with
    state := .triggered, record := some r
    counters := { s.detector.counters with onsets := min (s.detector.counters.onsets + 1) 65535 } }
  peers := s.peers.setRow s.loader.station { s.peers.row s.loader.station with trigger := some r.part }
  sched := { s.sched with slots := { s.sched.slots with
    onset := .ready ⟨onsetBody r, .stamp r.onset, s.clock.time, none, 0, none, false⟩ } }
  co := { s.co with waiting := s.co.waiting ++ [.vote .detector s.loader.station r.onset] } }

theorem State.onset_of_empty (stamp : Time) (inexact : Bool) (c : Nat) (h : s.sched.slots.onset = .empty) :
    s.onset stamp inexact c = (s.triggeredWith (s.newRecord stamp inexact c)).noticeTriggered true := by
  rw [State.onset, State.request_of_empty]
  · rfl
  · exact h

/-! ### The strong test and its report (R108, R151) -/

theorem State.strongEvent_iff (onset : Time) : s.strongEvent onset = true ↔
    ∃ e, s.openEvent = some e ∧ e.level = 1 ∧ e.members[s.loader.station.val] = some onset := by
  cases ho : s.openEvent <;> simp [State.strongEvent, Event.holds, ho, and_comm]

/-- The part after a strong test that passes for this record, before the coincidence unit is told. -/
def State.strongMarked (r : TriggerRecord) : State := { s with detector := { s.detector with
  record := some { r with strongReported := true }
  counters := { s.detector.counters with
    strongReports := min (s.detector.counters.strongReports + 1) 65535 } } }

section strong

variable {s : State} {r : TriggerRecord} {e : Event}

theorem State.strongTest_of_strong (hr : s.detector.record = some r) (h : s.isStrong r e) :
    s.strongTest = (s.strongMarked r).noticeStrong r.peak := by
  obtain ⟨hfirst, hpeak, hopen, hlevel, hmember⟩ := h
  have hevent : s.strongEvent r.onset = true := (s.strongEvent_iff _).mpr ⟨e, hopen, hlevel, hmember⟩
  simp only [State.strongTest, hr, hfirst, hpeak, hevent]
  rfl

theorem State.strongTest_of_not_strong (hr : s.detector.record = some r) (h : ∀ e, ¬ s.isStrong r e) :
    s.strongTest = s := by
  have hfails : ¬(r.strongReported = false ∧ s.profile.strong ≤ r.peak ∧ s.strongEvent r.onset = true) := by
    rintro ⟨hfirst, hpeak, hevent⟩
    obtain ⟨e, hopen, hlevel, hmember⟩ := (s.strongEvent_iff _).mp hevent
    exact h e ⟨hfirst, hpeak, hopen, hlevel, hmember⟩
  simp only [State.strongTest, hr]
  exact if_neg (by simpa [and_assoc] using hfails)

theorem State.noticeStrong_of_declined (peak : Nat) (ho : s.openEvent = some e) (h : e.raiseOutcome ≠ .none) :
    s.noticeStrong peak = { s with alerts := { s.alerts with counters := { s.alerts.counters with
      declinedStrong := min (s.alerts.counters.declinedStrong + 1) 65535 } } } := by
  simp only [State.noticeStrong, ho, h, and_false, if_false]
  rfl

/-- The first report on a record of level 1, with the ALERT-RAISE slot empty: the raise is requested and tracked. -/
theorem State.noticeStrong_of_raised (peak : Nat) (ho : s.openEvent = some e) (hl : e.level = 1)
    (h : e.raiseOutcome = .none) (hslot : s.sched.slots.alertRaise = .empty) :
    s.noticeStrong peak = { s with
      sched := { s.sched with slots := { s.sched.slots with
        alertRaise := .ready ⟨raiseBody e peak, .serial e.serial, s.clock.time, none, 0, none, false⟩ } }
      alerts := { s.alerts with tracking := s.alerts.tracking ++ [⟨.raise, e.serial, .none⟩] }
      co := { s.co with events := s.co.events.map (fun y =>
        if y.serial = e.serial then { y with raiseOutcome := .pending } else y) } } := by
  simp only [State.noticeStrong, ho, hl, h, and_self, if_true]
  rw [s.request_of_empty .alertRaise _ _ _ _ hslot, State.setOutcome, State.updateEvent_eq]
  rfl

end strong

/-! ### A set in TRIGGERED (R107) -/

theorem TriggerRecord.advance_eq_after (r : TriggerRecord) (c : Nat) : r.advance c = r.after c := by
  by_cases hpeak : r.peak < c
  · simp [TriggerRecord.advance, TriggerRecord.after, hpeak, max_eq_right hpeak.le]
  · simp [TriggerRecord.advance, TriggerRecord.after, hpeak, max_eq_left (not_lt.mp hpeak)]

/-- The part with this trigger record. -/
def State.withRecord (r : TriggerRecord) : State := { s with detector := { s.detector with record := some r } }

/-- A set in TRIGGERED advances the record; the strong test and then the off test follow. -/
theorem State.trackTrigger_of_record {r : TriggerRecord} (c : Nat) (hr : s.detector.record = some r) {u : State}
    (hu : (s.withRecord (r.after c)).strongTest = u) :
    s.trackTrigger c =
      if 16 * u.detector.S < u.loader.profile.rOff * max u.detector.L (u.loader.profile.floor * 256)
      then u.endNormally else u := by
  subst hu
  simp only [State.trackTrigger, State.mapDetector, hr, Option.map_some, TriggerRecord.advance_eq_after]
  exact if_congr (offTest_iff _ _ _) rfl rfl

/-- A trigger that ends normally, with the CODA slot empty (R109, R112). -/
theorem State.endNormally_tellsEnd {r : TriggerRecord} (hr : s.detector.record = some r)
    (hc : s.sched.slots.coda = .empty) :
    s.endNormally.detector = { s.detector with
      state := if s.loader.profile.holdoff = 0 then .armed else .holdoff, holdoff := 0
      record := some { r with reason := .normal } } ∧
    s.tellsEnd s.endNormally { r with reason := .normal } ∧
    s.endNormally = { s with
      detector := s.endNormally.detector, peers := s.endNormally.peers, sched := s.endNormally.sched
      co := s.endNormally.co, heater := s.endNormally.heater } := by
  obtain ⟨htells, hframe⟩ := s.endTrigger_tellsEnd .normal r hr hc
  exact ⟨by rw [State.endNormally, hframe]; rfl, htells, by rw [State.endNormally, hframe]; rfl⟩

/-! ### The action of the state on a set (R94, R103, R104, R109) -/

theorem State.actOnSet_of_onset {c : Nat} (stamp : Time) (inexact : Bool) (hd : s.detector.state = .armed)
    (h : s.loader.profile.rOn * max s.detector.L (s.loader.profile.floor * 256) ≤ 16 * s.detector.S) :
    s.actOnSet stamp inexact c = s.onset stamp inexact c := by
  simp only [State.actOnSet, hd, (onTest_iff _ _ _).mpr h, if_true]

theorem State.actOnSet_of_triggered {c : Nat} (stamp : Time) (inexact : Bool) (hd : s.detector.state = .triggered) :
    s.actOnSet stamp inexact c = s.trackTrigger c := by
  simp only [State.actOnSet, hd]

/-- No set in ARMED changes the averages further. -/
theorem State.actOnSet_averages_of_armed {c : Nat} (stamp : Time) (inexact : Bool) (hd : s.detector.state = .armed) :
    (s.actOnSet stamp inexact c).detector.S = s.detector.S ∧
    (s.actOnSet stamp inexact c).detector.L = s.detector.L := by
  simp only [State.actOnSet, hd]
  split
  · exact s.onset_averages stamp inexact c
  · exact ⟨rfl, rfl⟩

/-- A detector in WARMUP, in HOLDOFF, or in ARMED below the on test counts the set in the count of its state. -/
theorem State.actOnSet_of_quiet {c : Nat} (stamp : Time) (inexact : Bool)
    (h : s.detector.state = .warmup ∨ s.detector.state = .holdoff ∨ s.detector.state = .armed ∧
      16 * s.detector.S < s.loader.profile.rOn * max s.detector.L (s.loader.profile.floor * 256)) :
    s.actOnSet stamp inexact c = { s with detector := { s.detector with
      warmup := if s.detector.state = .warmup then s.detector.warmup + 1 else s.detector.warmup
      holdoff := if s.detector.state = .holdoff then s.detector.holdoff + 1 else s.detector.holdoff } } := by
  rcases h with hd | hd | ⟨hd, hbelow⟩
  · simp [State.actOnSet, hd, State.mapDetector]
  · simp [State.actOnSet, hd, State.mapDetector]
  · have htest : onTest s.profile s.detector.S s.detector.L = false := by
      rw [← Bool.not_eq_true, onTest_iff]
      exact not_le.mpr hbelow
    have hsame : s.actOnSet stamp inexact c = s := by simp [State.actOnSet, hd, htest]
    rw [hsame, if_neg (by simp [hd]), if_neg (by simp [hd])]

/-! ### The sets of each state -/

section sets

variable {s : State} {x : Delivered} {d : Detector} {c : Nat} (hi : s.intake.state = .running)
  (hb : s.battery.stage ≠ .shed)

include hi hb

/-- A set in WARMUP, in HOLDOFF, or in ARMED below the on test: the averages and the count of the state. -/
theorem State.handSet_of_quiet (inexact : Bool) (ha : s.arithmetic x.values d c)
    (h : s.detector.state = .warmup ∨ s.detector.state = .holdoff ∨ s.detector.state = .armed ∧
      16 * d.S < s.loader.profile.rOn * max d.L (s.loader.profile.floor * 256)) :
    s.handSet x inexact = { s with detector := { s.detector.averaged d with
      warmup := if s.detector.state = .warmup then s.detector.warmup + 1 else s.detector.warmup
      holdoff := if s.detector.state = .holdoff then s.detector.holdoff + 1 else s.detector.holdoff } } := by
  have hd : s.detector.state ≠ .halted := by
    rcases h with hd | hd | ⟨hd, -⟩ <;> simp [hd]
  rw [State.handSet_of_arithmetic hi hb inexact hd ha]
  exact (s.averaged d).actOnSet_of_quiet x.stamp inexact h

/-- The averages after a set in ARMED are those of the arithmetic, whether it is the onset set or not. -/
theorem State.handSet_averages_of_armed (inexact : Bool) (hd : s.detector.state = .armed)
    (ha : s.arithmetic x.values d c) :
    (s.handSet x inexact).detector.S = d.S ∧ (s.handSet x inexact).detector.L = d.L := by
  rw [State.handSet_of_arithmetic hi hb inexact (by simp [hd]) ha]
  exact (s.averaged d).actOnSet_averages_of_armed x.stamp inexact hd

/-- A set in TRIGGERED: the averages, the record advanced, the strong test and the off test. -/
theorem State.handSet_of_triggered {r : TriggerRecord} (inexact : Bool) (hd : s.detector.state = .triggered)
    (hr : s.detector.record = some r) (ha : s.arithmetic x.values d c) {u : State}
    (hu : ((s.averaged d).withRecord (r.after c)).strongTest = u) :
    s.handSet x inexact =
      if 16 * u.detector.S < u.loader.profile.rOff * max u.detector.L (u.loader.profile.floor * 256)
      then u.endNormally else u :=
  calc s.handSet x inexact
      = (s.averaged d).actOnSet x.stamp inexact c := State.handSet_of_arithmetic hi hb inexact (by simp [hd]) ha
    _ = (s.averaged d).trackTrigger c := (s.averaged d).actOnSet_of_triggered x.stamp inexact hd
    _ = _ := (s.averaged d).trackTrigger_of_record c hr hu

end sets

/-- Settles O39: the onset set triggers, and the notice to the heater controller comes last. -/
theorem onsetSetsTrigger : Obligations.OnsetSetsTrigger := by
  intro s x inexact c d hi hb hd ha hon hslot hheater
  have heq : s.handSet x inexact =
      ((s.averaged d).triggeredWith ((s.averaged d).newRecord x.stamp inexact c)).noticeTriggered true :=
    calc s.handSet x inexact
        = (s.averaged d).actOnSet x.stamp inexact c := State.handSet_of_arithmetic hi hb inexact (by simp [hd]) ha
      _ = (s.averaged d).onset x.stamp inexact c := (s.averaged d).actOnSet_of_onset x.stamp inexact hd hon
      _ = _ := (s.averaged d).onset_of_empty x.stamp inexact c hslot
  have hframe := heq.trans (State.noticeTriggered_eq _ _)
  refine ⟨_, _, _, _, hframe, rfl, rfl, rfl, rfl, rfl, rfl, rfl, State.noticeTriggered_triggered _ _,
    fun hidle => ?_, rfl⟩
  refine (State.noticeTriggered_hold _).trans ?_
  exact if_pos ⟨hheater, hidle⟩

/-- Settles O38: the quiet states, the seeding set, and the sets of a trigger by the strong test and the off test. -/
theorem quietSetsUpdateTheAverages : Obligations.QuietSetsUpdateTheAverages := by
  refine ⟨fun s x inexact hi hb => ?_, fun s x inexact hi hb hd => ?_,
    fun s x inexact c d r0 r hi hb hd hr0 ha hr => ?_⟩
  · obtain ⟨d, c, ha⟩ : ∃ d c, s.arithmetic x.values d c := ⟨_, _, s.arithmetic_updateAverages rfl rfl⟩
    refine ⟨_, c, rfl, fun hquiet => ?_⟩
    have hquiet' : s.detector.state = .warmup ∨ s.detector.state = .holdoff ∨ s.detector.state = .armed ∧
        16 * d.S < s.loader.profile.rOn * max d.L (s.loader.profile.floor * 256) := by
      refine hquiet.imp_right (Or.imp_right fun ⟨hd, htest⟩ => ⟨hd, ?_⟩)
      obtain ⟨hS, hL⟩ := State.handSet_averages_of_armed hi hb inexact hd ha
      rwa [hS, hL] at htest
    rw [State.handSet_of_quiet hi hb inexact ha hquiet']
    exact ⟨ha, rfl, rfl, rfl⟩
  · rw [State.handSet_of_halted hi hb inexact hd]
    exact State.handSet_of_quiet (s := s.mapDetector _) hi hb inexact (s.arithmetic_seed x.values) (.inl rfl)
  · subst hr
    refine ⟨fun hweak hstays => ?_, fun hweak hends hc => ?_, fun e d1 hstrong hstays hd1 => ?_⟩
    · have heq := State.handSet_of_triggered hi hb inexact hd hr0 ha (State.strongTest_of_not_strong rfl hweak)
      exact heq.trans (if_neg (not_lt.mpr hstays))
    · have heq := State.handSet_of_triggered hi hb inexact hd hr0 ha (State.strongTest_of_not_strong rfl hweak)
      have hend := heq.trans (if_pos hends)
      obtain ⟨hdetector, htells, hframe⟩ := State.endNormally_tellsEnd ((s.averaged d).withRecord (r0.after c)) rfl hc
      exact ⟨_, _, hend, rfl, hdetector, State.tellsEnd_slots _ htells rfl, htells, hframe⟩
    · subst hd1
      have hmarked := State.strongTest_of_strong (s := (s.averaged d).withRecord (r0.after c)) rfl hstrong
      obtain ⟨-, -, hopen, hlevel, -⟩ := hstrong
      refine ⟨fun hraise => ?_, fun q hraise hslot hq => ?_⟩
      · have heq := State.handSet_of_triggered hi hb inexact hd hr0 ha
          (hmarked.trans (State.noticeStrong_of_declined _ hopen hraise))
        exact heq.trans (if_neg (not_lt.mpr hstays))
      · subst hq
        have heq := State.handSet_of_triggered hi hb inexact hd hr0 ha
          (hmarked.trans (State.noticeStrong_of_raised _ hopen hlevel hraise hslot))
        exact heq.trans (if_neg (not_lt.mpr hstays))

end Sys2Proof.Machine

/-! ## The record that a stamp matches (R119, R125, R134) -/

namespace Sys2Proof.Machine

theorem withinW_iff (p : Profile) (a b : Time) : withinW p a b = true ↔ (a.diff b).natAbs ≤ 1000000 * p.W := by
  simp [withinW]

theorem withinW_eq_false_iff (p : Profile) (a b : Time) :
    withinW p a b = false ↔ 1000000 * p.W < (a.diff b).natAbs := by
  simp [withinW]

theorem inSpan_iff (p : Profile) (origin t : Time) : inSpan p origin t = true ↔
    -(1000000 * (p.W : Int)) ≤ t.diff origin ∧ t.diff origin ≤ 10000000 * (p.E : Int) := by
  simp [inSpan, secondCycles]

section nearest

variable {p : Profile} {t : Time} {e : Event} {l : List Event}

theorem nearestRecord_cons_far (h : withinW p e.origin t = false) :
    nearestRecord p t (e :: l) = nearestRecord p t l := by
  simp [nearestRecord, h]

theorem nearestRecord_cons_only (h : withinW p e.origin t = true) (hl : nearestRecord p t l = none) :
    nearestRecord p t (e :: l) = some e := by
  simp [nearestRecord, h, hl]

theorem nearestRecord_cons_older {x : Event} (h : withinW p e.origin t = true) (hl : nearestRecord p t l = some x)
    (hx : (x.origin.diff t).natAbs < (e.origin.diff t).natAbs) : nearestRecord p t (e :: l) = some x := by
  simp [nearestRecord, h, hl, hx]

theorem nearestRecord_cons_newer {x : Event} (h : withinW p e.origin t = true) (hl : nearestRecord p t l = some x)
    (hx : (e.origin.diff t).natAbs ≤ (x.origin.diff t).natAbs) : nearestRecord p t (e :: l) = some e := by
  simp [nearestRecord, h, hl, Nat.not_lt.mpr hx]

theorem nearestRecord_eq_none_iff :
    nearestRecord p t l = none ↔ ∀ x ∈ l, 1000000 * p.W < (x.origin.diff t).natAbs := by
  induction l with
  | nil => simp [nearestRecord]
  | cons e l ih =>
    rw [List.forall_mem_cons, ← ih]
    cases h : withinW p e.origin t with
    | false =>
      rw [nearestRecord_cons_far h]
      exact (and_iff_right ((withinW_eq_false_iff ..).mp h)).symm
    | true =>
      have hnear : ¬ 1000000 * p.W < (e.origin.diff t).natAbs := Nat.not_lt.mpr ((withinW_iff ..).mp h)
      refine iff_of_false (fun hn => ?_) fun hn => hnear hn.1
      cases hl : nearestRecord p t l with
      | none => simp [nearestRecord_cons_only h hl] at hn
      | some x =>
        rcases Nat.lt_or_ge (x.origin.diff t).natAbs (e.origin.diff t).natAbs with hx | hx
        · simp [nearestRecord_cons_older h hl hx] at hn
        · simp [nearestRecord_cons_newer h hl hx] at hn

/-- `e` lies within W of `t` and no record of the list nearer; those before it lie farther. -/
def isNearest (p : Profile) (t : Time) (l : List Event) (e : Event) : Prop :=
  (e.origin.diff t).natAbs ≤ 1000000 * p.W ∧
  ∃ newer older, l = newer ++ e :: older ∧ (∀ x ∈ newer, (e.origin.diff t).natAbs < (x.origin.diff t).natAbs) ∧
    ∀ x ∈ older, (e.origin.diff t).natAbs ≤ (x.origin.diff t).natAbs

theorem isNearest_cons {a : Event} (h : isNearest p t l e) (ha : (e.origin.diff t).natAbs < (a.origin.diff t).natAbs) :
    isNearest p t (a :: l) e := by
  obtain ⟨hw, newer, older, rfl, hnewer, holder⟩ := h
  exact ⟨hw, a :: newer, older, rfl, List.forall_mem_cons.mpr ⟨ha, hnewer⟩, holder⟩

theorem isNearest_head (hw : (e.origin.diff t).natAbs ≤ 1000000 * p.W)
    (h : ∀ x ∈ l, (e.origin.diff t).natAbs ≤ (x.origin.diff t).natAbs) : isNearest p t (e :: l) e :=
  ⟨hw, [], l, rfl, by simp, h⟩

theorem isNearest_le (h : isNearest p t l e) : ∀ x ∈ l, (e.origin.diff t).natAbs ≤ (x.origin.diff t).natAbs := by
  obtain ⟨-, newer, older, rfl, hnewer, holder⟩ := h
  intro x hx
  rcases List.mem_append.mp hx with hx | hx
  · exact (hnewer x hx).le
  · rcases List.mem_cons.mp hx with rfl | hx
    · exact le_rfl
    · exact holder x hx

theorem nearestRecord_isNearest (h : nearestRecord p t l = some e) : isNearest p t l e := by
  induction l generalizing e with
  | nil => cases h
  | cons a l ih =>
    cases hw : withinW p a.origin t with
    | false =>
      have he := ih ((nearestRecord_cons_far hw).symm.trans h)
      exact isNearest_cons he (lt_of_le_of_lt he.1 ((withinW_eq_false_iff ..).mp hw))
    | true =>
      have hnear := (withinW_iff ..).mp hw
      cases hl : nearestRecord p t l with
      | none =>
        obtain rfl : a = e := Option.some.inj ((nearestRecord_cons_only hw hl).symm.trans h)
        exact isNearest_head hnear fun x hx => hnear.trans (nearestRecord_eq_none_iff.mp hl x hx).le
      | some y =>
        rcases Nat.lt_or_ge (y.origin.diff t).natAbs (a.origin.diff t).natAbs with hy | hy
        · obtain rfl : y = e := Option.some.inj ((nearestRecord_cons_older hw hl hy).symm.trans h)
          exact isNearest_cons (ih hl) hy
        · obtain rfl : a = e := Option.some.inj ((nearestRecord_cons_newer hw hl hy).symm.trans h)
          exact isNearest_head hnear fun x hx => hy.trans (isNearest_le (ih hl) x hx)

end nearest

/-- Settles O43: the choice among the older records, and then the newest against it. -/
theorem nearestRecordMatches : Obligations.NearestRecordMatches := by
  refine fun p t l => ⟨fun e h => ?_, nearestRecord_eq_none_iff.mp⟩
  have hnearest := nearestRecord_isNearest h
  have ⟨hw, newer, older, hl, hnewer, _⟩ := hnearest
  exact ⟨by simp [hl], hw, isNearest_le hnearest, newer, older, hl, hnewer⟩

end Sys2Proof.Machine

/-! ## The trigger parts of a vote, and the record that takes them in (R120, R123 to R128, R133, R137, R143) -/

namespace Sys2Proof.Machine

variable (s : State)

/-! ### The eligible parts (R120) -/

theorem TriggerPart.eligible_iff (p : TriggerPart) : p.eligible = true ↔
    p.consumed = false ∧ p.disturbed = false ∧ p.cls ≠ .t3 ∧ p.cls ≠ .t4 := by
  cases h : p.cls <;> simp [TriggerPart.eligible, TimeClass.votes, h]

theorem TriggerPart.weight_of_eligible (p : TriggerPart) (h : p.eligible = true) : p.cls.weight = p.votingWeight := by
  obtain ⟨-, -, h3, h4⟩ := p.eligible_iff.mp h
  unfold TriggerPart.votingWeight
  cases hc : p.cls with
  | t3 => exact absurd hc h3
  | t4 => exact absurd hc h4
  | _ => rfl

theorem State.eligibleParts_eq (test : Time → Bool) : s.eligibleParts test = s.eligibleWhere test := by
  refine congrArg (stations.filterMap ·) (funext fun n => ?_)
  cases (s.peers.row n).trigger with
  | none => rfl
  | some p => simp [p.eligible_iff, and_assoc]

theorem State.mem_eligibleParts {test : Time → Bool} {m : Member} : m ∈ s.eligibleParts test ↔
    (s.peers.row m.station).trigger = some m.part ∧ m.part.eligible = true ∧ test m.part.onset = true := by
  obtain ⟨n, p⟩ := m
  simp only [State.eligibleParts, List.mem_filterMap, stations, List.mem_finRange, true_and]
  constructor
  · rintro ⟨k, hk⟩
    split at hk
    · cases hk
    · rename_i q hq
      split at hk
      · rename_i htest
        cases hk
        exact ⟨hq, by simpa using htest⟩
      · cases hk
  · rintro ⟨hp, he, ht⟩
    exact ⟨n, by simp [hp, he, ht]⟩

/-- They stand by station number, one of a station. -/
theorem State.eligibleParts_ascending (test : Time → Bool) :
    (s.eligibleParts test).Pairwise (fun a b => a.station < b.station) := by
  refine List.Pairwise.filterMap _ (R := (· < ·)) (fun a b hab x hx y hy => ?_) (List.pairwise_lt_finRange 14)
  have station {n : Station} {m : Member} (h : (match (s.peers.row n).trigger with
      | none => none
      | some p => if p.eligible && test p.onset then some (⟨n, p⟩ : Member) else none) = some m) : m.station = n := by
    split at h
    · cases h
    · split at h <;> cases h
      rfl
  rwa [station hx, station hy]

theorem weightOf_eq {ms : List Member} (h : ∀ m ∈ ms, m.part.eligible = true) : weightOf ms = weightSum ms :=
  congrArg List.sum (List.map_congr_left fun m hm => m.part.weight_of_eligible (h m hm))

theorem originOf_mem {ms : List Member} {o : Member} (h : originOf ms = some o) : o ∈ ms := by
  induction ms with
  | nil => cases h
  | cons m ms ih =>
    cases hx : originOf ms with
    | none =>
      obtain rfl : m = o := by simpa [originOf, hx] using h
      exact List.mem_cons_self
    | some x =>
      simp only [originOf, hx] at h
      split at h
      · exact List.mem_cons_of_mem _ (ih (hx.trans h))
      · obtain rfl := Option.some.inj h
        exact List.mem_cons_self

/-- The member with the earliest onset is found: where onsets are equal, the list is ascending by station. -/
theorem originOf_of_isOrigin {ms : List Member} {o : Member} (hms : ms.Pairwise (fun a b => a.station < b.station))
    (h : isOrigin ms o) : originOf ms = some o := by
  induction ms with
  | nil => cases h.1
  | cons m ms ih =>
    obtain ⟨hfirst, hrest⟩ := List.pairwise_cons.mp hms
    obtain ⟨ho, hbest⟩ := h
    rcases List.mem_cons.mp ho with rfl | ho
    · cases hx : originOf ms with
      | none => simp only [originOf, hx]
      | some x =>
        have hlater : ¬ x.part.onset.diff o.part.onset < 0 := by
          have hb := hbest x (List.mem_cons_of_mem _ (originOf_mem hx)) (hfirst x (originOf_mem hx)).ne'
          omega
        simp only [originOf, hx, if_neg hlater]
    · have hx := ih hrest ⟨ho, fun x hx => hbest x (List.mem_cons_of_mem _ hx)⟩
      have hbefore : o.part.onset.diff m.part.onset < 0 := by
        rcases hbest m List.mem_cons_self (hfirst o ho).ne with ⟨hb, -⟩ | ⟨-, -, hb⟩
        · exact hb
        · exact absurd hb (lt_asymm (hfirst o ho))
      simp only [originOf, hx, if_pos hbefore]

/-! ### Parts that are consumed (R120) -/

/-- The peer table with the trigger parts of these stations consumed. -/
def Peers.consume (p : Peers) (ns : List Station) : Peers := ns.foldl (fun p n => p.setRow n (p.row n).consume) p

theorem State.consume_eq (ns : List Station) : s.consume ns = { s with peers := s.peers.consume ns } := rfl

theorem Peers.consume_frame (p : Peers) (ns : List Station) :
    p.consume ns = { p with rows := (p.consume ns).rows } := by
  induction ns generalizing p with
  | nil => rfl
  | cons n ns ih => exact ih (p.setRow n (p.row n).consume)

theorem Row.consume_consume (r : Row) : r.consume.consume = r.consume := by
  cases h : r.trigger <;> simp [Row.consume, h]

theorem Row.consume_of_trigger {r : Row} {p : TriggerPart} (h : r.trigger = some p) :
    r.consume = { r with trigger := some { p with consumed := true } } := by
  simp [Row.consume, h]

theorem Peers.row_consume (p : Peers) (ns : List Station) (n : Station) :
    (p.consume ns).row n = if n ∈ ns then (p.row n).consume else p.row n := by
  induction ns generalizing p with
  | nil => rfl
  | cons k ns ih =>
    rw [show p.consume (k :: ns) = (p.setRow k (p.row k).consume).consume ns from rfl, ih]
    by_cases hk : n = k
    · subst hk
      simp [Row.consume_consume]
    · simp [hk, Peers.row_setRow_other _ _ _ _ hk]

/-- The parts of the members, as the rows hold them, are consumed. -/
theorem Peers.consume_consumedBy (p : Peers) {ms : List Member}
    (h : ∀ m ∈ ms, (p.row m.station).trigger = some m.part) :
    p.consumedBy (p.consume (ms.map (fun m => m.station))) ms := by
  refine ⟨fun m hm => ?_, fun n hn => ?_, p.consume_frame _⟩
  · rw [p.row_consume, if_pos (List.mem_map_of_mem hm), Row.consume_of_trigger (h m hm)]
  · rw [p.row_consume, if_neg]
    simpa using hn

/-! ### Parts that a record takes in (R123, R127, R128, R133, R137) -/

theorem Event.joined_eq (e : Event) (m : Member) :
    e.joined m.station m.part = (e.take m).addWeight m.part.votingWeight := by
  cases hs : m.part.summary <;> cases hp : e.peak <;>
    simp [Event.joined, Event.take, Event.addWeight, addStation, foldSummary, foldPeak, hs, hp]

theorem Event.take_addWeight (e : Event) (w : Nat) (m : Member) : (e.addWeight w).take m = (e.take m).addWeight w := rfl

theorem Event.addWeight_addWeight (e : Event) (v w : Nat) : (e.addWeight v).addWeight w = e.addWeight (v + w) := by
  simp only [Event.addWeight, Event.mk.injEq, true_and, and_true]
  omega

/-- Members taken one after another weigh as their sum, once the weight is held to its range. -/
theorem Event.addWeight_joinedAll (e : Event) (w : Nat) (ms : List Member) :
    (e.addWeight w).joinedAll ms = (e.takeAll ms).addWeight (w + weightSum ms) := by
  induction ms generalizing e w with
  | nil => rfl
  | cons m ms ih =>
    calc (e.addWeight w).joinedAll (m :: ms)
        = (((e.addWeight w).take m).addWeight m.part.votingWeight).joinedAll ms := by rw [← Event.joined_eq]; rfl
      _ = ((e.take m).addWeight (w + m.part.votingWeight)).joinedAll ms := by
          rw [Event.take_addWeight, Event.addWeight_addWeight]
      _ = (e.takeAll (m :: ms)).addWeight (w + weightSum (m :: ms)) := by
          rw [ih, weightSum, weightSum, List.map_cons, List.sum_cons, Nat.add_assoc]
          rfl

theorem Event.joinedAll_eq (e : Event) {ms : List Member} (h : ms ≠ []) :
    e.joinedAll ms = (e.takeAll ms).addWeight (weightSum ms) := by
  cases ms with
  | nil => exact absurd rfl h
  | cons m ms =>
    rw [show e.joinedAll (m :: ms) = (e.joined m.station m.part).joinedAll ms from rfl, Event.joined_eq,
      Event.addWeight_joinedAll]
    simp [Event.takeAll, weightSum]

theorem Event.joinedAll_serial (e : Event) (ms : List Member) : (e.joinedAll ms).serial = e.serial := by
  induction ms generalizing e with
  | nil => rfl
  | cons m ms ih => exact ih _

theorem Event.takeAll_addWeight (e : Event) (w : Nat) (ms : List Member) :
    (e.addWeight w).takeAll ms = (e.takeAll ms).addWeight w := by
  induction ms generalizing e with
  | nil => rfl
  | cons m ms ih => exact ih (e.take m)

theorem Event.sweptAll_eq (e : Event) (heard : BitVec 14) {ms : List Member}
    (h : ∀ m ∈ ms, m.part.eligible = true) : ms.foldl (Event.sweep heard) e = e.sweptAll heard ms := by
  refine List.foldl_ext _ _ _ fun e m hm => ?_
  rw [Event.joined_eq, Event.sweep, m.part.weight_of_eligible (h m hm)]
  rfl

/-! ### The rank of a station (R143) -/

theorem memberBefore_iff (a b : Station × Time) :
    memberBefore a b = true ↔ a.2.diff b.2 < 0 ∨ a.2.diff b.2 = 0 ∧ a.1 < b.1 := by
  simp [memberBefore]

theorem Event.rank_eq (e : Event) (own : Station) : e.rank own = e.position own := by
  cases h : e.members[own.val] with
  | none =>
    simp only [Event.rank, Event.position, h, Event.memberList, List.length_filterMap_eq_countP, Option.isSome_map]
  | some t =>
    simp only [Event.rank, Event.position, h, Event.memberList, ← List.countP_eq_length_filter, List.countP_filterMap]
    refine List.countP_congr fun n _ => ?_
    cases e.members[n.val] with
    | none => simp
    | some u => simp [memberBefore_iff]

end Sys2Proof.Machine

/-! ## The anchor of a vote, and a join (R120, R122, R123) -/

namespace Sys2Proof.Machine

variable (s : State)

theorem State.anchorPart_eq_some_iff (n : Station) (onset : Time) (p : TriggerPart) :
    s.anchorPart n onset = some p ↔ (s.peers.row n).trigger = some p ∧ p.onset = onset ∧ p.eligible = true := by
  cases hp : (s.peers.row n).trigger with
  | none => simp [State.anchorPart, hp]
  | some q =>
    simp only [State.anchorPart, hp, Bool.and_eq_true, decide_eq_true_eq, Option.ite_none_right_eq_some,
      Option.some.injEq]
    constructor
    · rintro ⟨h, rfl⟩
      exact ⟨rfl, h⟩
    · rintro ⟨rfl, h⟩
      exact ⟨h, rfl⟩

theorem State.takeVote_of_dropped {n : Station} {onset : Time} (h : ∀ p, s.anchorPart n onset ≠ some p) :
    s.takeVote n onset = s.mapCoCounters (fun c => { c with dropped := bump16 c.dropped }) := by
  simp only [State.takeVote, Option.eq_none_iff_forall_ne_some.mpr h]

theorem State.takeVote_of_joining {n : Station} {onset : Time} {p : TriggerPart} {e : Event}
    (h : s.anchorPart n onset = some p) (ho : s.openEvent = some e)
    (hspan : inSpan s.loader.profile e.origin onset = true) : s.takeVote n onset = s.join e.serial ⟨n, p⟩ := by
  simp only [State.takeVote, h, ho]
  exact if_pos hspan

theorem State.takeVote_of_voting {n : Station} {onset : Time} {p : TriggerPart} (h : s.anchorPart n onset = some p)
    (houtside : ∀ e, s.openEvent = some e → inSpan s.loader.profile e.origin onset = false) :
    s.takeVote n onset = s.vote onset := by
  cases ho : s.openEvent with
  | none => simp only [State.takeVote, h, ho]
  | some e =>
    simp only [State.takeVote, h, ho]
    exact if_neg (Bool.eq_false_iff.mp (houtside e ho))

theorem Peers.consume_one (p : Peers) (n : Station) {x : TriggerPart} (h : (p.row n).trigger = some x) :
    p.consume [n] = p.setRow n { p.row n with trigger := some { x with consumed := true } } := by
  rw [← Row.consume_of_trigger h]
  rfl

theorem State.join_eq (n : BitVec 8) (m : Member) (h : m.part.eligible = true) : s.join n m = { s with
    peers := s.peers.consume [m.station]
    co := { s.co with
      events := s.co.events.map (fun x => if x.serial = n then x.joined m.station m.part else x)
      counters := { s.co.counters with joins := min (s.co.counters.joins + 1) 65535 } } } := by
  simp only [State.join, State.updateEvent_eq, Event.joined_eq, ← m.part.weight_of_eligible h]
  rfl

/-- Settles O41: the anchor's part by the checks of R122, and the span of the open event. -/
theorem votesJoinOrAreDropped : Obligations.VotesJoinOrAreDropped := by
  intro s source n onset rest h
  have hexec : exec .vote s = .next (((s.requestTaken rest).takeVote n onset).doneFor source) := exec_request s h
  refine ⟨fun hbad => ?_, fun p e hp honset hconsumed hdisturbed h3 h4 ho hlow hhigh => ?_⟩
  · have hdropped (p : TriggerPart) : (s.requestTaken rest).anchorPart n onset ≠ some p := by
      rw [ne_eq, State.anchorPart_eq_some_iff, p.eligible_iff]
      rintro ⟨hp, honset, hconsumed, hdisturbed, h3, h4⟩
      have := hbad p hp
      simp_all
    rw [hexec, State.takeVote_of_dropped _ hdropped, State.doneFor_eq]
    rfl
  · have he : p.eligible = true := p.eligible_iff.mpr ⟨hconsumed, hdisturbed, h3, h4⟩
    have hanchor := ((s.requestTaken rest).anchorPart_eq_some_iff n onset p).mpr ⟨hp, honset, he⟩
    rw [hexec, State.takeVote_of_joining _ hanchor ho ((inSpan_iff ..).mpr ⟨hlow, hhigh⟩), State.join_eq _ _ _ he,
      State.doneFor_eq, ← Peers.consume_one _ _ hp]
    rfl

end Sys2Proof.Machine

/-! ## A record that enters the list in place of the open one (R126, R129 to R131, R136, R149, R150, R154) -/

namespace Sys2Proof.Machine

variable (s : State)

/-! ### Closing by replacement (R130, R131, R149) -/

/-- The alert unit's counters after the open record, if there is one, has closed by replacement (R149, R157). -/
def State.countersClosed : AlertCounters :=
  match s.openEvent with
  | none => s.alerts.counters
  | some e => if e.alertOutcome = .deferring
    then { s.alerts.counters with alertsLapsed := min (s.alerts.counters.alertsLapsed + 1) 65535 }
    else s.alerts.counters

/-- The deference timer after the open record, if there is one, has closed by replacement (R149). -/
def State.timerClosed : Option Deference :=
  s.alerts.deference.filter (fun x =>
    !(s.openEvent.any (fun e => decide (e.alertOutcome = .deferring) && decide (e.serial = x.serial))))

theorem Deference.filter_true (d : Option Deference) : d.filter (fun _ => true) = d := by cases d <;> rfl

/-- Where nothing is open, nothing closes. -/
theorem State.closed_of_none (h : s.openEvent = none) : s.closeOpen = s ∧ s.eventsClosed = s.co.events ∧
    s.timerClosed = s.alerts.deference ∧ s.countersClosed = s.alerts.counters := by
  simp [State.closeOpen, State.eventsClosed, State.timerClosed, State.countersClosed, h, Deference.filter_true]

section replaced

variable {e : Event} (ho : s.openEvent = some e)

include ho

theorem State.closed_of_deferring (h : e.alertOutcome = .deferring) :
    s.eventsClosed = (s.co.events.map (fun x => if x.serial = e.serial then { x with isOpen := false } else x)).map
      (fun x => if x.serial = e.serial then { x with alertOutcome := .lapsed } else x) ∧
    s.timerClosed = s.alerts.deference.filter (fun d => decide (d.serial ≠ e.serial)) ∧
    s.countersClosed =
      { s.alerts.counters with alertsLapsed := min (s.alerts.counters.alertsLapsed + 1) 65535 } := by
  refine ⟨?_, ?_, ?_⟩
  · simp only [State.eventsClosed, ho, h, if_true, List.map_map]
    refine List.map_congr_left fun x _ => ?_
    by_cases hx : x.serial = e.serial <;> simp [hx]
  · simp [State.timerClosed, ho, h, eq_comm]
  · simp [State.countersClosed, ho, h]

theorem State.closed_of_not_deferring (h : e.alertOutcome ≠ .deferring) :
    s.eventsClosed = s.co.events.map (fun x => if x.serial = e.serial then { x with isOpen := false } else x) ∧
    s.timerClosed = s.alerts.deference ∧ s.countersClosed = s.alerts.counters := by
  simp [State.eventsClosed, State.timerClosed, State.countersClosed, ho, h, Deference.filter_true]

end replaced

/-- A record without a pending request closes at once: a deferring alert lapses with its timer. -/
theorem State.closeOpen_of_quiet (h : s.closesQuietly) : s.closeOpen = { s with
    co := { s.co with events := s.eventsClosed }
    alerts := { s.alerts with deference := s.timerClosed, counters := s.countersClosed } } := by
  cases ho : s.openEvent with
  | none =>
    obtain ⟨hclose, hevents, htimer, hcounters⟩ := s.closed_of_none ho
    rw [hclose, hevents, htimer, hcounters]
  | some e =>
    obtain ⟨he, halert, hraise, -⟩ := h e ho
    obtain ⟨c, u, hc, hdeferring, -, hother, -, hnoRaise⟩ := s.closeRecord_closes he
    rw [show s.closeOpen = s.closeRecord e.serial by simp only [State.closeOpen, ho], hnoRaise hraise]
    by_cases hd : e.alertOutcome = .deferring
    · obtain ⟨hevents, htimer, hcounters⟩ := s.closed_of_deferring ho hd
      rw [hdeferring hd, hc, hevents, htimer, hcounters]
    · obtain ⟨hevents, htimer, hcounters⟩ := s.closed_of_not_deferring ho hd
      rw [hother hd halert, hc, hevents, htimer, hcounters]

/-! ### A record that enters (R126, R129, R150) -/

/-- The deference timer is cleared if it holds the record that eight lose. -/
theorem State.removeOldest_eq (h : s.co.events.length ≤ 8) : s.removeOldest = { s with
    co := { s.co with events := s.co.events.take 7 }
    alerts := { s.alerts with deference := s.alerts.deference.filter (fun x =>
      !(decide (8 ≤ s.co.events.length) && s.co.events.getLast?.any (fun e => decide (e.serial = x.serial)))) } } := by
  by_cases hl : s.co.events.length < 8
  · have htake : s.co.events.take 7 = s.co.events := List.take_of_length_le (by omega)
    simp [State.removeOldest, hl, htake, Nat.not_le.mpr hl, Deference.filter_true]
  · have hlen : s.co.events.length = 8 := by omega
    have htake : s.co.events.take 7 = s.co.events.dropLast := by rw [List.dropLast_eq_take, hlen]
    cases hlast : s.co.events.getLast? with
    | none => simp [List.getLast?_eq_none_iff.mp hlast] at hlen
    | some e =>
      simp only [State.removeOldest, hl, if_false, hlast]
      simp [State.clearDeferenceOf_eq, htake, hlen, eq_comm]

/-- The state with the record `e` entered in place of the open one and of the oldest of eight, with these counters and
this peer table. -/
def State.entered (e : Event) (counters : CoCounters) (peers : Peers) : State := { s with
  co := { s.co with events := e :: s.eventsClosed.take 7, serial := s.co.serial + 1, counters := counters }
  alerts := { s.alerts with deference := s.timerAfter, counters := s.countersClosed }
  peers := peers }

theorem State.eventsClosed_length : s.eventsClosed.length = s.co.events.length := by
  unfold State.eventsClosed
  split <;> simp

theorem State.eventsClosed_serials : s.eventsClosed.map Event.serial = s.co.events.map Event.serial := by
  unfold State.eventsClosed
  split
  · rfl
  · rw [List.map_map]
    refine List.map_congr_left fun x _ => ?_
    dsimp only [Function.comp]
    split <;> rfl

/-- The timer lost with the record that closes, and then with the one that eight lose. -/
theorem State.timerAfter_eq : s.timerAfter = s.timerClosed.filter (fun x =>
    !(decide (8 ≤ s.eventsClosed.length) && s.eventsClosed.getLast?.any (fun e => decide (e.serial = x.serial)))) := by
  have hlast (n : BitVec 8) : s.eventsClosed.getLast?.any (fun e => decide (e.serial = n)) =
      s.co.events.getLast?.any (fun e => decide (e.serial = n)) := by
    have := congrArg (fun l : List (BitVec 8) => l.getLast?.any (fun k => decide (k = n))) s.eventsClosed_serials
    simpa [List.getLast?_map, Option.any_map, Function.comp_def] using this
  rw [State.timerAfter, State.timerClosed, Option.filter_filter]
  simp only [State.eventsClosed_length, hlast]

theorem State.enterRecord_eq (h : s.closesQuietly) (hl : s.co.events.length ≤ 8) (e : Event) (ns : List Station) :
    (s.closeOpen.consume ns).enterRecord e = s.entered e s.co.counters (s.peers.consume ns) := by
  have hlen : s.eventsClosed.length ≤ 8 := s.eventsClosed_length.trans_le hl
  rw [s.closeOpen_of_quiet h, State.consume_eq, State.enterRecord, State.removeOldest_eq _ hlen]
  simp only [State.entered, State.timerAfter_eq]

/-! ### The notices of an opening (R130, R154) -/

theorem State.tellOpened_of_none : s.tellOpened false = { s.startAnnunciator with
    heater := (s.startAnnunciator.noticeEvent true).heater } := State.noticeEvent_eq _ _

/-- The notices of an opening change the heater controller and the alert unit alone. -/
theorem State.tellOpened_eq (b : Bool) : s.tellOpened b = { s with
    heater := (s.tellOpened b).heater, alerts := (s.tellOpened b).alerts } := by
  cases b
  · rw [State.tellOpened_of_none]
    rfl
  · rfl

/-- The notices leave the alert unit's requests. -/
theorem State.tellOpened_requests (b : Bool) : (s.tellOpened b).alerts.deference = s.alerts.deference ∧
    (s.tellOpened b).alerts.tracking = s.alerts.tracking ∧ (s.tellOpened b).alerts.counters = s.alerts.counters := by
  cases b
  · rw [State.tellOpened_of_none]
    exact ⟨rfl, rfl, rfl⟩
  · exact ⟨rfl, rfl, rfl⟩

/-- Where an event was open, nobody is told. -/
theorem State.tellOpened_of_open : s.tellOpened true = s := rfl

theorem State.tellOpened_told : (s.tellOpened false).heater.eventOpen = true ∧
    (s.tellOpened false).alerts.annState = .waiting ∧ (s.tellOpened false).alerts.ann = false := by
  refine ⟨State.noticeEvent_eventOpen _ _, ?_⟩
  rw [State.tellOpened_of_none]
  exact ⟨rfl, rfl⟩

/-- The notices of a record that has entered, where `t` still has the heater controller and the annunciator of `s`. -/
theorem State.tellOpened_openedAfter {t : State} (hheater : t.heater = s.heater)
    (hann : t.alerts.annState = s.alerts.annState ∧ t.alerts.ann = s.alerts.ann ∧ t.alerts.slot = s.alerts.slot ∧
      t.alerts.level = s.alerts.level)
    (hcounters : t.alerts.counters = s.countersClosed) : s.openedAfter (t.tellOpened s.openEvent.isSome) := by
  obtain ⟨hstate, hout, hslot, hlevel⟩ := hann
  refine ⟨fun ho => ?_, fun e ho => ?_⟩
  · obtain ⟨hopen, hwaiting, hreleased⟩ := t.tellOpened_told
    obtain ⟨-, -, hkept⟩ := t.tellOpened_requests false
    obtain ⟨-, -, -, hclosed⟩ := s.closed_of_none ho
    rw [ho]
    exact ⟨hopen, hwaiting, hreleased, hkept.trans (hcounters.trans hclosed)⟩
  · rw [ho]
    refine ⟨hheater, hstate, hout, hslot, hlevel, hcounters.trans ?_⟩
    simp only [State.countersClosed, ho]

/-! ### A new record (R126, R136) -/

/-- A change of the newest record, where no other has its serial. -/
theorem State.updateEvent_head {n : BitVec 8} {e : Event} {l : List Event} (hev : s.co.events = e :: l)
    (he : e.serial = n) (hl : ∀ x ∈ l, x.serial ≠ n) (f : Event → Event) :
    s.updateEvent n f = { s with co := { s.co with events := f e :: l } } := by
  have hrest : l.map (fun x => if x.serial = n then f x else x) = l :=
    (List.map_congr_left fun x hx => if_neg (hl x hx)).trans (List.map_id _)
  simp only [State.updateEvent_eq, hev, List.map_cons, he, if_true, hrest]

/-! ### Adoption (R119, R136, R137) -/

theorem State.eligibleParts_spanSet (origin : Time) :
    s.eligibleParts (fun t => inSpan s.profile origin t) = s.spanSet origin := by
  refine (s.eligibleParts_eq _).trans (congrArg s.eligibleWhere (funext fun t => ?_))
  rw [Bool.eq_iff_iff, inSpan_iff, decide_eq_true_eq]

theorem State.spanSet_eligible (origin : Time) : ∀ m ∈ s.spanSet origin,
    (s.peers.row m.station).trigger = some m.part ∧ m.part.eligible = true := by
  intro m hm
  rw [← State.eligibleParts_spanSet] at hm
  obtain ⟨hp, he, -⟩ := s.mem_eligibleParts.mp hm
  exact ⟨hp, he⟩

section entered

variable (hquiet : s.closesQuietly) (hlen : s.co.events.length ≤ 8) (hfresh : ∀ x ∈ s.co.events, x.serial ≠ s.co.serial)

include hfresh in
/-- No other record has the new one's serial. -/
theorem State.eventsClosed_fresh : ∀ x ∈ s.eventsClosed.take 7, x.serial ≠ s.co.serial := by
  intro x hx
  have hserial : x.serial ∈ s.co.events.map Event.serial := by
    rw [← s.eventsClosed_serials]
    exact List.mem_map_of_mem (List.mem_of_mem_take hx)
  obtain ⟨y, hy, hxy⟩ := List.mem_map.mp hserial
  exact hxy ▸ hfresh y hy

include hfresh in
/-- A change of the new record changes no other. -/
theorem State.updateEvent_entered {e : Event} (he : e.serial = s.co.serial) (f : Event → Event) (c : CoCounters)
    (p : Peers) : (s.entered e c p).updateEvent s.co.serial f = s.entered (f e) c p :=
  State.updateEvent_head _ rfl he (s.eventsClosed_fresh hfresh) f

include hquiet in
theorem State.newEvent_closeOpen (ns : List Station) : (s.closeOpen.consume ns).newEvent = s.newEvent := by
  rw [s.closeOpen_of_quiet hquiet]
  rfl

include hquiet hlen hfresh in
/-- A record adopted: entered, with the eligible parts of its span swept in and consumed. -/
theorem State.adopt_eq (h : Heard) : s.adopt h = (s.entered
    ((s.newEvent h.origin (Fin.ofNat 14 h.station) h.level h.weight h.contributors true).sweptAll h.contributors
      (s.spanSet h.origin))
    { s.co.counters with adoptions := min (s.co.counters.adoptions + 1) 65535 }
    (s.peers.consume ((s.spanSet h.origin).map (fun m => m.station)))).tellOpened s.openEvent.isSome := by
  have hnew : s.closeOpen.newEvent = s.newEvent := s.newEvent_closeOpen hquiet []
  have henter (e : Event) : s.closeOpen.enterRecord e = s.entered e s.co.counters s.peers :=
    s.enterRecord_eq hquiet hlen e []
  have hserial : s.closeOpen.co.serial = s.co.serial := by rw [s.closeOpen_of_quiet hquiet]
  have hspan (e : Event) : (s.entered e s.co.counters s.peers).eligibleParts (fun t => inSpan s.profile h.origin t) =
      s.spanSet h.origin := s.eligibleParts_spanSet h.origin
  have hsweep (e : Event) : (s.spanSet h.origin).foldl (Event.sweep h.contributors) e =
      e.sweptAll h.contributors (s.spanSet h.origin) :=
    e.sweptAll_eq _ fun m hm => (s.spanSet_eligible h.origin m hm).2
  have hupdate := s.updateEvent_entered hfresh
    (e := s.newEvent h.origin (Fin.ofNat 14 h.station) h.level h.weight h.contributors true) rfl
    (fun e => (s.spanSet h.origin).foldl (Event.sweep h.contributors) e) s.co.counters
    (s.peers.consume ((s.spanSet h.origin).map (fun m => m.station)))
  rw [hsweep] at hupdate
  simp only [State.adopt, hnew, henter, hserial, State.profile_eq]
  rw [show ∀ e c p, (s.entered e c p).loader = s.loader from fun _ _ _ => rfl, ← State.profile_eq, hspan]
  exact congrArg (fun u : State => (u.mapCoCounters (fun c => { c with adoptions := bump16 c.adoptions })).tellOpened
    s.openEvent.isSome) hupdate

end entered

end Sys2Proof.Machine

/-! ## A heard ALERT (R119, R134 to R137, R147) -/

namespace Sys2Proof.Machine

variable (s : State)

/-! ### The contents of a heard ALERT (R134, R201) -/

theorem Heard.badAlert_iff (body : List Byte) : (readHeard body).badAlert = true ↔
    13 < field body 7 1 % 16 ∨ 10000000 ≤ (stampAt body 0).sub ∨
      (field body 7 1 / 16 % 4 ≠ 1 ∧ field body 7 1 / 16 % 4 ≠ 2) ∨ field body 8 2 % 16384 = 0 := by
  have hset : BitVec.ofNat 14 (field body 8 2) = 0#14 ↔ field body 8 2 % 16384 = 0 := by
    rw [← BitVec.toNat_inj]
    simp
  rw [Heard.badAlert, Bool.or_eq_true, Bool.or_eq_true, Heard.badOrigin_iff]
  simp [readHeard, bitsOf, hset, or_assoc]

/-- A heard ALERT as its fields give it. -/
theorem readHeard_eq (body : List Byte) : readHeard body = {
    origin := stampAt body 0, station := field body 7 1 % 16, level := field body 7 1 / 16 % 4
    contributors := BitVec.ofNat 14 (field body 8 2 % 16384), weight := field body 10 1
    peak := min (field body 8 3) 8388607 } := by
  have hset : BitVec.ofNat 14 (field body 8 2) = BitVec.ofNat 14 (field body 8 2 % 16384) :=
    BitVec.eq_of_toNat_eq (by simp)
  simp [readHeard, bitsOf, hset]

/-! ### A matched ALERT (R135, R147) -/

/-- A record that a heard ALERT has matched (R135). -/
def Event.matched (h : Heard) (e : Event) : Event := { e with
  level := max e.level h.level, contributors := e.contributors ||| h.contributors, weight := max e.weight h.weight }

section hearAlert

variable {body : List Byte}

theorem State.hearAlert_of_malformed (h : (readHeard body).badAlert = true) : s.hearAlert body = s.countMalformed := by
  simp only [State.hearAlert, h, if_true]

theorem State.hearAlert_of_matched {e : Event} (h : (readHeard body).badAlert = false)
    (hm : s.matching (readHeard body).origin = some e) :
    s.hearAlert body = (s.updateEvent e.serial (Event.matched (readHeard body))).alertMatched e.serial := by
  simp only [State.hearAlert, h, hm]
  rfl

theorem State.hearAlert_of_unmatched (h : (readHeard body).badAlert = false)
    (hm : s.matching (readHeard body).origin = none) : s.hearAlert body = s.adopt (readHeard body) := by
  simp [State.hearAlert, h, hm]

end hearAlert

section alertMatched

variable {n : BitVec 8} {e : Event} (he : s.event n = some e)

include he

theorem State.alertMatched_of_deferring (h : e.alertOutcome = .deferring) {x : Time}
    (hx : s.alerts.deference = some ⟨n, x⟩) : s.alertMatched n = { s with
    co := { s.co with events := s.co.events.map (fun x =>
      if x.serial = n then { x with alertOutcome := .yielded } else x) }
    alerts := { s.alerts with
      deference := none
      counters := { s.alerts.counters with alertsYielded := min (s.alerts.counters.alertsYielded + 1) 65535 } } } := by
  have hclear : s.clearDeferenceOf n = s.clearDeference := by simp [State.clearDeferenceOf, hx]
  have hopen (y : Event) (hy : s.clearDeference.event n = some y) : (y.outcome .alert).final = false := by
    obtain rfl : e = y := Option.some.inj (he.symm.trans hy)
    rw [show e.outcome .alert = .deferring from h]
    rfl
  simp only [State.alertMatched, he, h, hclear]
  rw [State.resolve_of_open _ .alert n .yielded hopen, State.setOutcome, State.updateEvent_eq]
  rfl

theorem State.alertMatched_of_pending (h : e.alertOutcome = .pending) :
    s.alertMatched n = s.withdraw .alert n .yield := by
  simp only [State.alertMatched, he, h]

theorem State.alertMatched_of_other (hd : e.alertOutcome ≠ .deferring) (hp : e.alertOutcome ≠ .pending) :
    s.alertMatched n = s := by
  cases ho : e.alertOutcome with
  | deferring => exact absurd ho hd
  | pending => exact absurd ho hp
  | _ => simp only [State.alertMatched, he, ho]

end alertMatched

/-- Settles O44: a heard ALERT by its tests, by the outcome of the record that it matches, and as a record adopted. -/
theorem heardAlertsMatchOrAreAdopted : Obligations.HeardAlertsMatchOrAreAdopted := by
  intro s sender body rest origin station level set w h horigin hstation hlevel hset hw
  have hexec : exec .heardAlert s = .next ((s.requestTaken rest).hearAlert body).release := exec_request s h
  have hread : readHeard body = ⟨origin, station, level, BitVec.ofNat 14 set, w, min (field body 8 3) 8388607⟩ := by
    rw [readHeard_eq, horigin, hstation, hlevel, hset, hw]
    rfl
  have hbad : (readHeard body).badAlert = true ↔
      13 < station ∨ 10000000 ≤ origin.sub ∨ (level ≠ 1 ∧ level ≠ 2) ∨ set = 0 := by
    rw [Heard.badAlert_iff, horigin, hstation, hlevel, hset]
    rfl
  have hgood (hst : station ≤ 13) (hsub : origin.sub < 10000000) (hlv : level = 1 ∨ level = 2) (hne : set ≠ 0) :
      (readHeard body).badAlert = false := by
    rw [← Bool.not_eq_true, hbad]
    omega
  refine ⟨fun hmal => ?_, fun e events hst hsub hlv hne hmatch he hevents => ?_,
    fun ms hst hsub hlv hne hmatch hms hfresh hlen hquiet => ?_⟩
  · rw [hexec, State.hearAlert_of_malformed _ (hbad.mpr hmal)]
    rfl
  · have hheard := (s.requestTaken rest).hearAlert_of_matched (hgood hst hsub hlv hne) (e := e)
      (by rw [hread]; exact hmatch)
    have he' := (s.requestTaken rest).event_updateEvent (Event.matched (readHeard body)) (fun _ => rfl) he
    have hrecords : (s.requestTaken rest).updateEvent e.serial (Event.matched (readHeard body)) =
        { s with co := { s.co with waiting := rest, events := events } } := by
      rw [State.updateEvent_eq, hevents, hread]
      rfl
    rw [hheard, hrecords] at hexec
    rw [hrecords] at he'
    refine ⟨fun hd hp => ?_, fun x hd hx => ?_, fun hp => ⟨_, hexec, ?_⟩⟩
    · rw [hexec, State.alertMatched_of_other _ he' hd hp]
      rfl
    · rw [hexec, State.alertMatched_of_deferring _ he' hd hx]
      rfl
    · rw [State.alertMatched_of_pending _ he' hp]
      exact State.takesBack_release (State.withdraw_takesBack _ (j := .alert) .yield he' hp)
  · have hheard := (s.requestTaken rest).hearAlert_of_unmatched (hgood hst hsub hlv hne) (by rw [hread]; exact hmatch)
    rw [hheard, (s.requestTaken rest).adopt_eq hquiet hlen hfresh, hread] at hexec
    subst hms
    have hconsumed := s.peers.consume_consumedBy fun m hm => (s.spanSet_eligible origin m hm).1
    refine ⟨_, _, _, hexec, rfl, ?_, hconsumed, ?_, ?_, ?_, ?_, ?_⟩
    · rw [State.tellOpened_eq]
      rfl
    · rw [State.tellOpened_eq]
      rfl
    · exact State.tellOpened_openedAfter (s.requestTaken rest) (t := State.entered ..) rfl ⟨rfl, rfl, rfl, rfl⟩ rfl
    · exact (State.tellOpened_requests _ _).1
    · exact (State.tellOpened_requests _ _).2.1
    · rw [State.tellOpened_eq]
      rfl

end Sys2Proof.Machine

/-! ## A vote on its candidates: a fold, or a declaration and its alert (R124 to R127, R143, R145) -/

namespace Sys2Proof.Machine

variable (s : State)

/-! ### The candidates (R124, R125, R127) -/

theorem State.exec_vote_of_votes {source : Source} {n : Station} {onset : Time} {rest : List CoRequest}
    (h : s.votes source n onset rest) :
    exec .vote s = .next (((s.requestTaken rest).vote onset).doneFor source) := by
  obtain ⟨htake, ⟨p, hp, honset, hok⟩, houtside⟩ := h
  have hanchor := ((s.requestTaken rest).anchorPart_eq_some_iff n onset p).mpr ⟨hp, honset, p.eligible_iff.mpr hok⟩
  have hspan (e : Event) (ho : s.openEvent = some e) : inSpan s.loader.profile e.origin onset = false := by
    have := houtside e ho
    rw [← Bool.not_eq_true, inSpan_iff]
    omega
  rw [← State.takeVote_of_voting _ hanchor hspan]
  exact exec_request s htake

theorem State.eligibleParts_candidateSet (onset : Time) :
    s.eligibleParts (fun t => withinW s.profile t onset) = s.candidateSet onset :=
  s.eligibleParts_eq _

theorem State.candidateSet_eligible (onset : Time) : ∀ m ∈ s.candidateSet onset,
    (s.peers.row m.station).trigger = some m.part ∧ m.part.eligible = true := by
  intro m hm
  rw [← State.eligibleParts_candidateSet] at hm
  obtain ⟨hp, he, -⟩ := s.mem_eligibleParts.mp hm
  exact ⟨hp, he⟩

theorem State.weightOf_candidateSet (onset : Time) :
    weightOf (s.candidateSet onset) = weightSum (s.candidateSet onset) :=
  weightOf_eq fun m hm => (s.candidateSet_eligible onset m hm).2

theorem State.originOf_candidateSet {onset : Time} {o : Member} (h : isOrigin (s.candidateSet onset) o) :
    originOf (s.candidateSet onset) = some o := by
  refine originOf_of_isOrigin ?_ h
  rw [← State.eligibleParts_candidateSet]
  exact s.eligibleParts_ascending _

section vote

variable {onset : Time} {o : Member}

theorem State.vote_of_light (h : weightSum (s.candidateSet onset) < s.loader.profile.V) : s.vote onset = s := by
  simp only [State.vote, s.eligibleParts_candidateSet, s.weightOf_candidateSet, State.profile_eq,
    if_neg (Nat.not_le.mpr h)]

variable (hv : s.loader.profile.V ≤ weightSum (s.candidateSet onset)) (ho : isOrigin (s.candidateSet onset) o)

include hv ho

theorem State.vote_of_folding {e : Event} (h : s.matching o.part.onset = some e) :
    s.vote onset = s.fold e.serial (s.candidateSet onset) := by
  simp only [State.vote, s.eligibleParts_candidateSet, s.weightOf_candidateSet, State.profile_eq, if_pos hv,
    s.originOf_candidateSet ho, h]

theorem State.vote_of_declaring (h : s.matching o.part.onset = none) :
    s.vote onset = s.declare o (s.candidateSet onset) := by
  simp only [State.vote, s.eligibleParts_candidateSet, s.weightOf_candidateSet, State.profile_eq, if_pos hv,
    s.originOf_candidateSet ho, h]

end vote

theorem State.fold_eq (n : BitVec 8) {ms : List Member} (hms : ms ≠ []) (h : ∀ m ∈ ms, m.part.eligible = true) :
    s.fold n ms = { s with
      peers := s.peers.consume (ms.map (fun m => m.station))
      co := { s.co with
        events := s.co.events.map (fun x => if x.serial = n then x.joinedAll ms else x)
        counters := { s.co.counters with folds := min (s.co.counters.folds + 1) 65535 } } } := by
  simp only [State.fold, State.updateEvent_eq, weightOf_eq h, ← Event.joinedAll_eq _ hms]
  rfl

/-! ### A declaration (R126, R130) -/

/-- The record of a declaration: level 1, the members taken in (R126). -/
def State.declaredEvent (o : Member) (ms : List Member) : Event :=
  (s.newEvent o.part.onset o.station 1 0 0 false).joinedAll ms

theorem State.takeAll_newEvent (o : Member) {ms : List Member} (h : ∀ m ∈ ms, m.part.eligible = true) :
    (s.newEvent o.part.onset o.station 1 (min (weightOf ms) 255) 0 false).takeAll ms = s.declaredEvent o ms := by
  have hweight (w : Nat) : s.newEvent o.part.onset o.station 1 (min w 255) 0 false =
      (s.newEvent o.part.onset o.station 1 0 0 false).addWeight w := by
    simp [State.newEvent, Event.addWeight]
  calc (s.newEvent o.part.onset o.station 1 (min (weightOf ms) 255) 0 false).takeAll ms
      = ((s.newEvent o.part.onset o.station 1 0 0 false).takeAll ms).addWeight (0 + weightSum ms) := by
        rw [hweight, Event.takeAll_addWeight, weightOf_eq h, Nat.zero_add]
    _ = s.declaredEvent o ms := by
        rw [← Event.addWeight_joinedAll, ← hweight]
        rfl

/-- A record declared: entered with its members, which are consumed, and then the alert unit's and the other notices. -/
theorem State.declare_eq (hquiet : s.closesQuietly) (hlen : s.co.events.length ≤ 8) (o : Member) {ms : List Member}
    (h : ∀ m ∈ ms, m.part.eligible = true) : s.declare o ms = ((s.entered (s.declaredEvent o ms)
      { s.co.counters with declarations := min (s.co.counters.declarations + 1) 65535 }
      (s.peers.consume (ms.map (fun m => m.station)))).startDeference s.co.serial).tellOpened s.openEvent.isSome := by
  have hserial (ns : List Station) : (s.closeOpen.consume ns).co.serial = s.co.serial := by
    rw [s.closeOpen_of_quiet hquiet]
    rfl
  simp only [State.declare, s.newEvent_closeOpen hquiet, s.takeAll_newEvent o h, s.enterRecord_eq hquiet hlen, hserial]
  rfl

/-! ### The alert of a declared record (R143, R145) -/

/-- A record whose alert has been requested, at rank 0, or deferred (R143). -/
def Event.alerted (e : Event) (own : Station) : Event :=
  { e with alertOutcome := if e.position own = 0 then .pending else .deferring }

section newest

variable {n : BitVec 8} {e : Event} {l : List Event} (hev : s.co.events = e :: l) (he : e.serial = n)

include hev he

theorem State.event_newest : s.event n = some e := by
  simp [State.event, hev, he]

/-- A station of a later rank sets its timer. -/
theorem State.startDeference_of_later (hl : ∀ x ∈ l, x.serial ≠ n) (h : 0 < e.position s.loader.station) :
    s.startDeference n = { s with
      co := { s.co with events := e.alerted s.loader.station :: l }
      alerts := { s.alerts with deference := some ⟨n, s.clock.time.add
        (10000 * (e.position s.loader.station * s.loader.profile.D) : Nat)⟩ } } := by
  simp only [State.startDeference, s.event_newest hev he, Event.rank_eq, State.own_eq, if_neg h.ne']
  refine (State.updateEvent_head _ ?_ he hl _).trans ?_
  · exact hev
  rw [Event.alerted, if_neg h.ne']
  rfl

theorem State.startDeference_of_first (h : e.position s.loader.station = 0) :
    s.startDeference n = s.requestAlert n := by
  simp only [State.startDeference, s.event_newest hev he, Event.rank_eq, State.own_eq, h, if_true]

theorem State.requestAlert_of_empty (hl : ∀ x ∈ l, x.serial ≠ n) (h : s.sched.slots.alert = .empty) :
    s.requestAlert n = { s with
      co := { s.co with events := { e with alertOutcome := .pending } :: l }
      sched := { s.sched with slots := { s.sched.slots with
        alert := .ready ⟨alertBody e, .serial n, s.clock.time, none, 0, none, false⟩ } }
      alerts := { s.alerts with tracking := s.alerts.tracking ++ [⟨.alert, n, .none⟩] } } := by
  simp only [State.requestAlert, s.event_newest hev he, s.request_of_empty .alert _ _ _ _ h]
  refine State.updateEvent_head _ ?_ he hl _
  exact hev

end newest

/-! ### An ALERT request that replaces another (R64, R146) -/

/-- The coincidence unit is `c` but for its records, of which `e`, but for its alert outcome, is the newest. -/
def State.newestIs (c : Coincidence) (e : Event) : Prop :=
  ∃ o l, s.co = { c with events := { e with alertOutcome := o } :: l }

section newestIs

variable {s} {c : Coincidence} {e : Event} (h : s.newestIs c e)

include h

theorem State.newestIs.setOutcome (n : BitVec 8) (o : AlertOutcome) : (s.setOutcome .alert n o).newestIs c e := by
  obtain ⟨a, l, hco⟩ := h
  rw [State.setOutcome, State.updateEvent_eq, hco, List.map_cons]
  by_cases he : e.serial = n
  · rw [if_pos he]
    exact ⟨o, _, rfl⟩
  · rw [if_neg he]
    exact ⟨a, _, rfl⟩

theorem State.newestIs.resolve (n : BitVec 8) (o : AlertOutcome) : (s.resolve .alert n o).newestIs c e := by
  unfold State.resolve
  split
  · exact h
  · split
    · exact h
    · exact h.setOutcome n o

theorem State.newestIs.reportAlert (n : BitVec 8) : (s.reportAlert .alert n .superseded).newestIs c e := by
  unfold State.reportAlert
  split
  · exact h
  · refine State.newestIs.resolve ?_ n _
    exact h

theorem State.newestIs.leave (r : Request) : (s.leave .alert r .superseded).newestIs c e := by
  cases hr : r.ref with
  | serial n =>
    rw [State.leave, hr]
    refine State.newestIs.reportAlert ?_ n
    exact h
  | _ =>
    rw [State.leave, hr]
    exact h

theorem State.newestIs.request (body : List Byte) (ref : Ref) (time : Time) (deadline : Option Time) :
    (s.request .alert body ref time deadline).newestIs c e := by
  obtain ⟨v, hset | ⟨old, hleave⟩⟩ := s.request_cases .alert body ref time deadline
  · rw [hset]
    exact h
  · rw [hleave]
    refine State.newestIs.leave ?_ old
    exact h

end newestIs

/-- The newest record's alert is PENDING once it is requested, whatever request stood in the slot. -/
theorem State.requestAlert_newest {n : BitVec 8} {e : Event} {l : List Event} (hev : s.co.events = e :: l)
    (he : e.serial = n) :
    ∃ l', (s.requestAlert n).co = { s.co with events := { e with alertOutcome := .pending } :: l' } := by
  have hself : s.newestIs s.co e := ⟨e.alertOutcome, l, by rw [← hev]⟩
  obtain ⟨o, l', hco⟩ := hself.request (alertBody e) (.serial n) s.now none
  simp only [State.requestAlert, s.event_newest hev he]
  rw [State.setOutcome, State.updateEvent_eq]
  simp only [hco, List.map_cons, he, if_true]
  exact ⟨_, rfl⟩

theorem State.requestAlert_eq (n : BitVec 8) : s.requestAlert n = { s with
    co := (s.requestAlert n).co, sched := (s.requestAlert n).sched, alerts := (s.requestAlert n).alerts } := by
  have hframe := s.requestAlert_frame n
  have hother : (s.requestAlert n).heater = s.heater ∧ (s.requestAlert n).service = s.service ∧
      (s.requestAlert n).detector = s.detector := by
    unfold State.requestAlert
    split
    · exact ⟨rfl, rfl, rfl⟩
    · rename_i e _
      obtain ⟨hheater, hservice, hdetector, -⟩ := s.request_other .alert (alertBody e) (.serial n) s.now none
      exact ⟨hheater nofun, hservice nofun, hdetector nofun nofun⟩
  generalize s.requestAlert n = t at hframe hother ⊢
  cases t
  simp_all

/-- The notice *declared* makes the newest record's alert PENDING or DEFERRING, and changes the scheduler and the alert
unit besides. -/
theorem State.startDeference_newest {n : BitVec 8} {e : Event} {l : List Event} (hev : s.co.events = e :: l)
    (he : e.serial = n) (hl : ∀ x ∈ l, x.serial ≠ n) :
    (∃ l', (s.startDeference n).co = { s.co with events := e.alerted s.loader.station :: l' }) ∧
    s.startDeference n = { s with
      co := (s.startDeference n).co, sched := (s.startDeference n).sched, alerts := (s.startDeference n).alerts } := by
  rcases Nat.eq_zero_or_pos (e.position s.loader.station) with h | h
  · rw [s.startDeference_of_first hev he h, Event.alerted, if_pos h]
    exact ⟨s.requestAlert_newest hev he, s.requestAlert_eq n⟩
  · rw [s.startDeference_of_later hev he hl h]
    exact ⟨⟨l, rfl⟩, rfl⟩

/-- The state with a declared record entered and its members consumed, before the notices. -/
def State.declaring (o : Member) (ms : List Member) : State := s.entered (s.declaredEvent o ms)
  { s.co.counters with declarations := min (s.co.counters.declarations + 1) 65535 }
  (s.peers.consume (ms.map (fun m => m.station)))

/-- That state after the notice *declared*. -/
def State.declared (o : Member) (ms : List Member) : State := (s.declaring o ms).startDeference s.co.serial

section declared

variable (hfresh : ∀ x ∈ s.co.events, x.serial ≠ s.co.serial) (o : Member) (ms : List Member)

theorem State.declaring_events : (s.declaring o ms).co.events = s.declaredEvent o ms :: s.eventsClosed.take 7 := rfl

theorem State.declaredEvent_serial : (s.declaredEvent o ms).serial = s.co.serial := Event.joinedAll_serial _ ms

include hfresh

theorem State.declared_newest :
    (∃ l, (s.declared o ms).co = { s.co with
      events := (s.declaredEvent o ms).alerted s.loader.station :: l
      serial := s.co.serial + 1
      counters := { s.co.counters with declarations := min (s.co.counters.declarations + 1) 65535 } }) ∧
    s.declared o ms = { s with
      co := (s.declared o ms).co, sched := (s.declared o ms).sched, alerts := (s.declared o ms).alerts
      peers := s.peers.consume (ms.map (fun m => m.station)) } :=
  (s.declaring o ms).startDeference_newest (s.declaring_events o ms) (s.declaredEvent_serial o ms)
    (s.eventsClosed_fresh hfresh)

theorem State.declared_of_later (h : 0 < (s.declaredEvent o ms).position s.loader.station) :
    (s.declared o ms).co.events = (s.declaredEvent o ms).alerted s.loader.station :: s.eventsClosed.take 7 ∧
    (s.declared o ms).sched = s.sched ∧
    (s.declared o ms).alerts = { s.alerts with
      deference := some ⟨s.co.serial, s.clock.time.add
        (10000 * ((s.declaredEvent o ms).position s.loader.station * s.loader.profile.D) : Nat)⟩
      counters := s.countersClosed } := by
  rw [State.declared, (s.declaring o ms).startDeference_of_later (s.declaring_events o ms)
    (s.declaredEvent_serial o ms) (s.eventsClosed_fresh hfresh) h]
  exact ⟨rfl, rfl, rfl⟩

theorem State.declared_of_first (h : (s.declaredEvent o ms).position s.loader.station = 0)
    (hslot : s.sched.slots.alert = .empty) :
    (s.declared o ms).co.events = (s.declaredEvent o ms).alerted s.loader.station :: s.eventsClosed.take 7 ∧
    (s.declared o ms).sched = { s.sched with slots := { s.sched.slots with
      alert := .ready ⟨alertBody (s.declaredEvent o ms), .serial s.co.serial, s.clock.time, none, 0, none, false⟩ } } ∧
    (s.declared o ms).alerts = { s.alerts with
      deference := s.timerAfter, tracking := s.alerts.tracking ++ [⟨.alert, s.co.serial, .none⟩]
      counters := s.countersClosed } := by
  have hev := s.declaring_events o ms
  have he := s.declaredEvent_serial o ms
  rw [State.declared, (s.declaring o ms).startDeference_of_first hev he h,
    (s.declaring o ms).requestAlert_of_empty hev he (s.eventsClosed_fresh hfresh) hslot, Event.alerted, if_pos h]
  exact ⟨rfl, rfl, rfl⟩

/-- Unless a request stood in the ALERT slot, the new record's alert changes no other record, and nothing of the
annunciator and the counters. -/
theorem State.declared_of_room
    (h : (s.declaredEvent o ms).position s.loader.station = 0 → s.sched.slots.alert = .empty) :
    (s.declared o ms).co.events = (s.declaredEvent o ms).alerted s.loader.station :: s.eventsClosed.take 7 ∧
    s.openedAfter ((s.declared o ms).tellOpened s.openEvent.isSome) := by
  have hheater : (s.declared o ms).heater = s.heater := by rw [(s.declared_newest hfresh o ms).2]
  rcases Nat.eq_zero_or_pos ((s.declaredEvent o ms).position s.loader.station) with hp | hp
  · obtain ⟨hevents, -, halerts⟩ := s.declared_of_first hfresh o ms hp (h hp)
    exact ⟨hevents, s.tellOpened_openedAfter hheater (by simp [halerts]) (by simp [halerts])⟩
  · obtain ⟨hevents, -, halerts⟩ := s.declared_of_later hfresh o ms hp
    exact ⟨hevents, s.tellOpened_openedAfter hheater (by simp [halerts]) (by simp [halerts])⟩

end declared

/-- Settles O42: a vote by the weight of its candidates, and at the threshold by the record nearest to the origin. -/
theorem votesDeclareEvents : Obligations.VotesDeclareEvents := by
  intro s source n onset rest ms hvotes hms
  obtain rfl : ms = (s.requestTaken rest).candidateSet onset := hms
  have hexec := s.exec_vote_of_votes hvotes
  have hms := (s.requestTaken rest).candidateSet_eligible onset
  have hconsumed := s.peers.consume_consumedBy fun m hm => (hms m hm).1
  refine ⟨fun hlight => ?_, fun o e hv ho hmatch => ⟨_, hconsumed, ?_⟩,
    fun o hv ho hfar hfresh hlen hquiet => ?_⟩
  · rw [hexec, State.vote_of_light _ hlight, State.doneFor_eq]
    rfl
  · have hne : (s.requestTaken rest).candidateSet onset ≠ [] := List.ne_nil_of_mem ho.1
    rw [hexec, (s.requestTaken rest).vote_of_folding hv ho hmatch, State.fold_eq _ _ hne fun m hm => (hms m hm).2,
      State.doneFor_eq]
    rfl
  · have hnone : (s.requestTaken rest).matching o.part.onset = none := nearestRecord_eq_none_iff.mpr hfar
    rw [(s.requestTaken rest).vote_of_declaring hv ho hnone,
      (s.requestTaken rest).declare_eq hquiet hlen o fun m hm => (hms m hm).2] at hexec
    generalize (s.requestTaken rest).candidateSet onset = ms at *
    change exec .vote s =
      .next ((((s.requestTaken rest).declared o ms).tellOpened s.openEvent.isSome).doneFor source) at hexec
    obtain ⟨⟨l, hco⟩, heq⟩ := (s.requestTaken rest).declared_newest hfresh o ms
    have hnotices := ((s.requestTaken rest).declared o ms).tellOpened_eq s.openEvent.isSome
    obtain ⟨hdeference, htracking, -⟩ := ((s.requestTaken rest).declared o ms).tellOpened_requests s.openEvent.isSome
    have hrecords := (congrArg State.co hnotices).trans hco
    rw [State.doneFor_eq] at hexec
    refine ⟨_, _, _, _, hexec, rfl, rfl, congrArg (fun c => c.events.head?) hrecords,
      congrArg Coincidence.serial hrecords, congrArg Coincidence.waiting hrecords,
      congrArg Coincidence.counters hrecords, hconsumed, ?_, fun ho => ?_, fun ho => ?_, fun hroom => ?_,
      fun hp => ?_, fun x hp hslot hx => ?_, ?_⟩
    · rw [hnotices, heq]
      rfl
    · rw [ho]
      exact ((s.requestTaken rest).declared o ms).tellOpened_told
    · rw [Option.isSome_iff_ne_none.mpr ho, State.tellOpened_of_open, heq]
      rfl
    · obtain ⟨hevents, hopened⟩ := (s.requestTaken rest).declared_of_room hfresh o ms hroom
      refine ⟨?_, hopened⟩
      simp only [State.tellOpened_frame, hevents]
      rfl
    · obtain ⟨-, hsched, halerts⟩ := (s.requestTaken rest).declared_of_later hfresh o ms hp
      simp only [State.tellOpened_frame, hdeference, htracking, hsched, halerts]
      exact ⟨rfl, rfl, rfl⟩
    · obtain ⟨-, hsched, halerts⟩ := (s.requestTaken rest).declared_of_first hfresh o ms hp hslot
      simp only [State.tellOpened_frame, hdeference, htracking, hsched, halerts, hx]
      exact ⟨rfl, rfl, rfl⟩
    · rw [hnotices, heq]
      rfl

end Sys2Proof.Machine

/-! ## The deference timer's end (R143 to R145) -/

namespace Sys2Proof.Machine

variable (s : State)

/-- The ALERT request of any record of the list, where the slot is empty: the request READY, its tracking entry, and the
outcome PENDING. -/
theorem State.requestAlert_of_event {n : BitVec 8} {e : Event} (he : s.event n = some e)
    (h : s.sched.slots.alert = .empty) :
    s.requestAlert n = { s with
      sched := { s.sched with slots := { s.sched.slots with
        alert := .ready ⟨alertBody e, .serial n, s.clock.time, none, 0, none, false⟩ } }
      alerts := { s.alerts with tracking := s.alerts.tracking ++ [⟨.alert, n, .none⟩] }
      co := { s.co with events := s.co.events.map (fun x =>
        if x.serial = n then { x with alertOutcome := .pending } else x) } } := by
  simp only [State.requestAlert, he, s.request_of_empty .alert _ _ _ _ h]
  rw [State.setOutcome, State.updateEvent_eq]
  rfl

theorem State.expireDeference_of_timer {t : Deference} (h : s.alerts.deference = some t) :
    s.expireDeference = (s.requestAlert t.serial).clearDeference := by
  simp only [State.expireDeference, h]

theorem State.deferenceReached_of_timer {t : Deference} (h : s.alerts.deference = some t)
    (hx : 0 ≤ s.clock.time.diff t.expiry) : s.deferenceReached = true := by
  simp only [State.deferenceReached, h]
  exact decide_eq_true hx

/-- Settles O47: the timer that has been reached requests the ALERT of its record. -/
theorem deferenceEndsInAnAlert : Obligations.DeferenceEndsInAnAlert := by
  intro s e x r h hp hd hx he hslot hr
  have hreached := s.deferenceReached_of_timer hd hx
  rw [exec_deferenceExpiry, carryOut_of s _ _ h (by simp [State.isRunning, hp, hreached]),
    s.expireDeference_of_timer hd, s.requestAlert_of_event he hslot, hr]
  rfl

end Sys2Proof.Machine

/-! ## The annunciator inside the second (R153, R155) -/

namespace Sys2Proof.Machine

variable (s : State)

/-! ### The slot boundary that is due -/

theorem State.fell_of_within {q : Nat} (hlow : q ≤ s.clock.time.sub) (hhigh : s.clock.time.sub < q + s.clock.advanced) :
    s.fell q = some ⟨s.clock.time.sec, q⟩ := if_pos ⟨hlow, hhigh⟩

theorem State.fell_of_past {q : Nat} (h : q + s.clock.advanced ≤ s.clock.time.sub) : s.fell q = none :=
  if_neg fun hfell => hfell.2.not_ge h

/-- A cycle advances station time by too little for it to pass two quarter seconds, so the one that fell is the one
found. -/
theorem State.quarterPoint_of_within {q : Nat} (hq : q = 2500000 ∨ q = 5000000 ∨ q = 7500000)
    (hlow : q ≤ s.clock.time.sub) (hhigh : s.clock.time.sub < q + s.clock.advanced) (hadv : s.clock.advanced ≤ 2) :
    s.quarterPoint = some ⟨s.clock.time.sec, q⟩ := by
  have hfell := s.fell_of_within hlow hhigh
  have hpast (r : Nat) (hr : r + 2 ≤ q) : s.fell r = none := s.fell_of_past (by omega)
  rcases hq with rfl | rfl | rfl
  · simp only [State.quarterPoint, hfell]
  · simp only [State.quarterPoint, hpast 2500000 (by decide), hfell]
  · simp only [State.quarterPoint, hpast 2500000 (by decide), hpast 5000000 (by decide), hfell]

theorem State.slotDue_of_quarterPoint {p : Time} (h : s.alerts.annState = .playing) (hp : s.quarterPoint = some p)
    (hnew : s.alerts.slotPoint ≠ some p) : s.slotDue = some p := by
  simp only [State.slotDue, h, hp, if_neg hnew]

/-! ### What the move changes -/

/-- The annunciator's count changes the alert unit alone. -/
theorem State.annunciateBoundary_eq (p : Time) :
    s.annunciateBoundary p = { s with alerts := (s.annunciateBoundary p).alerts } := by
  have hframe := s.annunciateBoundary_frame p
  generalize s.annunciateBoundary p = t at hframe ⊢
  cases t
  simp_all

/-- While a pattern plays, ANNUNCIATOR_SLOT moves the annunciator as a second boundary does (R155). -/
theorem exec_annunciatorSlot_of_due {p : Time} (h : s.isSettled = true) (hp : s.loader.phase = .running)
    (hplay : s.alerts.annState = .playing) (hdue : s.slotDue = some p) :
    exec .annunciatorSlot s = .next { s with alerts := (s.annunciateBoundary p).alerts } := by
  have hmove : s.annunciateBoundary p = s.nextSlot p := by simp only [State.annunciateBoundary, hplay]
  rw [exec_annunciatorSlot, carryOut_of s _ _ h (by simp [State.isRunning, hp, hdue]), hdue, ← s.annunciateBoundary_eq p,
    hmove]
  rfl

/-- Settles O48: the quarter second that fell is due, and the move is that of a second boundary. -/
theorem quarterSecondsMoveTheAnnunciator : Obligations.QuarterSecondsMoveTheAnnunciator := by
  rintro s q p h hp hplay hq hlow hhigh hadv rfl hnew
  have hdue := s.slotDue_of_quarterPoint hplay (s.quarterPoint_of_within hq hlow hhigh hadv) hnew
  rw [exec_annunciatorSlot_of_due s h hp hplay hdue]
  refine ⟨fun hnext => ?_, fun e hlast he => ?_⟩
  · rw [s.annunciateBoundary_of_next _ hplay hnext]
  · rw [s.annunciateBoundary_of_start _ e he (.inr ⟨hplay, hlast⟩), ← hplay]

end Sys2Proof.Machine

/-! ## CHGEN and the commands that change the battery monitor (R168) -/

namespace Sys2Proof.Machine

variable (s : State)

/-! ### What CHGEN's rule reads -/

/-- The second state has the battery monitor of the first, and the phase and the working values that CHGEN's rule
reads. -/
structure State.KeepsCharge (s t : State) : Prop where
  battery : t.battery = s.battery
  running : t.loader.phase = .running ↔ s.loader.phase = .running
  profile : t.loader.profile = s.loader.profile

theorem State.KeepsCharge.of_loader {s t : State} (hb : t.battery = s.battery) (hl : t.loader = s.loader) :
    s.KeepsCharge t := ⟨hb, by rw [hl], by rw [hl]⟩

theorem State.KeepsCharge.chargeRuled {s t : State} (h : s.KeepsCharge t) (hs : s.chargeRuled) : t.chargeRuled := by
  rwa [State.chargeRuled, ne_eq, h.running, h.battery, h.profile]

/-- The loader may move where the phase and the working values stand. -/
theorem State.KeepsCharge.of_phase {l : Loader} (hphase : l.phase = s.loader.phase)
    (hprofile : l.profile = s.loader.profile) (f : Nat) : s.KeepsCharge { s with loader := l, free := f } :=
  ⟨rfl, by simp [hphase], hprofile⟩

/-- Writes of the clock and steps of station time, on a state with this battery monitor and this loader. -/
theorem ClockMoves.keepsCharge {R : Clock → Clock → Prop} {s u t : State} (h : ClockMoves R u t)
    (hb : u.battery = s.battery) (hl : u.loader = s.loader) : s.KeepsCharge t := by
  obtain ⟨hloader, hbattery, -, -⟩ := h.frame
  exact .of_loader (hbattery.trans hb) (hloader.trans hl)

/-- A level of CHGEN that its condition gives is ruled by it, once no reading can have come before the end of
loading. -/
theorem State.chargeRuled_of_allowed (hloading : s.loader.phase ≠ .running → s.battery.batteryTemp = none)
    (h : s.battery.chgen = s.chargeAllowed) : s.chargeRuled := by
  have hiff := s.chargeAllowed_iff
  rw [← h] at hiff
  refine ⟨fun hp => ⟨hloading hp, ?_⟩, fun hs => ?_, fun _ _ => hiff⟩
  · simpa [hloading hp] using hiff
  · simpa [hs] using hiff

/-! ### The battery monitor's operations -/

/-- The SoC test sets CHGEN by the stage that it leaves in force. -/
theorem State.applySocTest_chgen : s.applySocTest.battery.chgen = s.applySocTest.chargeAllowed := by
  unfold State.applySocTest
  dsimp only
  split <;> rfl

/-- The stage tests rule CHGEN, where it was deasserted before the end of loading and in SHED. -/
theorem State.stageTests_chargeRuled
    (hloading : s.loader.phase ≠ .running → s.battery.batteryTemp = none ∧ s.battery.chgen = false)
    (hshed : s.battery.stage = .shed → s.battery.chgen = false) : s.stageTests.chargeRuled := by
  by_cases hs : s.battery.stage = .shed
  · rw [s.stageTests_of_shed hs]
    split
    · exact ⟨hloading, fun _ => hshed hs, fun _ _ => by simp [State.mapBattery, hshed hs, hs]⟩
    · exact State.chargeRuled_of_allowed _ (fun hp => (hloading hp).1) rfl
  · rw [s.stageTests_of_not_shed hs]
    split
    · rename_i hlow
      exact ⟨hloading, fun k => absurd k hs, fun _ k => absurd (k hs) (by simpa [State.mapBattery] using hlow)⟩
    · refine State.chargeRuled_of_allowed _ (fun hp => ?_) (State.applySocTest_chgen _)
      simp only [State.applySocTest_frame] at hp
      rw [State.applySocTest_battery]
      exact (hloading hp).1

theorem State.takeReading_chargeRuled (r : Readings) (h : s.chargeRuled) (hr : s.loader.phase = .running) :
    (s.takeReading r).chargeRuled := by
  obtain ⟨-, hshed, -⟩ := h
  unfold State.takeReading
  dsimp only
  split
  · exact ⟨fun k => absurd hr k, hshed, fun k => by simp [State.mapBattery] at k⟩
  · exact State.stageTests_chargeRuled _ (fun k => absurd hr k) hshed

theorem State.resync_chargeRuled (h : s.chargeRuled) : s.resync.chargeRuled := by
  obtain ⟨hloading, hshed, hiff⟩ := h
  unfold State.resync
  dsimp only
  split
  · exact State.stageTests_chargeRuled _ hloading hshed
  · exact ⟨hloading, hshed, hiff⟩

theorem State.enterShed_battery : s.enterShed.battery = s.battery.shed s.loader.profile.capacity := by
  simp [State.enterShed_eq, State.unloaded]

theorem State.enterShed_chargeRuled (h : s.chargeRuled) : s.enterShed.chargeRuled := by
  obtain ⟨hloading, -, -⟩ := h
  rw [State.chargeRuled, State.enterShed_battery]
  exact ⟨fun hp => ⟨(hloading (by simpa using hp)).1, rfl⟩, fun _ => rfl, fun _ _ => by simp [Battery.shed]⟩

theorem State.leaveShed_chargeRuled (h : s.chargeRuled) : s.leaveShed.chargeRuled := by
  obtain ⟨hloading, -, -⟩ := h
  exact State.chargeRuled_of_allowed _ (fun hp => (hloading hp).1) rfl

/-- Before the end of loading no reading has come, so the working values that loading draws leave CHGEN deasserted. -/
theorem State.endLoading_chargeRuled (o : LoadOutcome) (hp : s.loader.phase ≠ .running) (h : s.chargeRuled) :
    (s.endLoading o).chargeRuled := by
  obtain ⟨q, soc, hb⟩ := s.endLoading_battery o
  obtain ⟨hloading, -, -⟩ := h
  obtain ⟨htemp, hchgen⟩ := hloading hp
  rw [State.chargeRuled, hb]
  exact ⟨fun _ => ⟨htemp, hchgen⟩, fun _ => hchgen, fun _ _ => by simp [htemp, hchgen]⟩

/-! ### Limit steps, commands and cycles -/

/-- Every limit step but the battery monitor's own leaves that monitor. -/
theorem Limit.effect_keepsCharge (x : Limit) (hresync : x ≠ .resync) (hentry : x ≠ .shedEntry) (hexit : x ≠ .shedExit) :
    s.KeepsCharge (x.effect s) := by
  cases x
  case outlier => exact s.outlierLimit_moves.keepsCharge rfl rfl
  case evaluation => exact s.evaluateReference_moves.keepsCharge rfl rfl
  case refReturn => exact s.returnReference_moves.keepsCharge rfl rfl
  case missing => exact s.loseReference_moves.keepsCharge rfl rfl
  case age => exact s.ageLimit_moves.keepsCharge rfl rfl
  case timePart n =>
    exact (State.reexamine_moves (s.mapPeers fun p => p.setRow n { p.row n with time := none })).keepsCharge rfl rfl
  case conflict | disturbed | heatPart | triggerPart | warmup | holdoff => exact ⟨rfl, Iff.rfl, rfl⟩
  case stall | forced | hold =>
    exact .of_loader (by simp [Limit.effect, State.stall]) (by simp [Limit.effect, State.stall])
  case resync => exact absurd rfl hresync
  case shedEntry => exact absurd rfl hentry
  case shedExit => exact absurd rfl hexit

theorem Limit.effect_chargeRuled (x : Limit) (h : s.chargeRuled) : (x.effect s).chargeRuled := by
  by_cases hresync : x = .resync
  · exact hresync ▸ s.resync_chargeRuled h
  by_cases hentry : x = .shedEntry
  · exact hentry ▸ s.enterShed_chargeRuled h
  by_cases hexit : x = .shedExit
  · exact hexit ▸ s.leaveShed_chargeRuled h
  · exact (x.effect_keepsCharge s hresync hentry hexit).chargeRuled h

/-- Every command but a reset, a reading and the end of an attempt leaves the battery monitor. -/
theorem rule_keepsCharge (i : Instr) (hp : i ≠ .powerOnReset) (hr : i ≠ .pinReset)
    (hb : ∀ r, i ≠ .secondBoundaryEvent r) (he : ∀ x, i ≠ .profileAttemptEnd x) (condition : State → Bool)
    (effect : State → State) (hi : conductOf i = .rule condition effect) (hc : condition s = true) :
    s.KeepsCharge (effect s) := by
  have inbound {f : InEntry → State → State} (k : effect s = s.inbound f)
      (hf : ∀ e u, (f e u).battery = u.battery ∧ (f e u).loader = u.loader) : s.KeepsCharge (effect s) := by
    rw [k]
    rcases s.inbound_cases f with ⟨e, rest, -, h⟩ | ⟨t, p, h, -⟩ <;> rw [h]
    · obtain ⟨hbattery, hloader⟩ := hf e { s with peers := { s.peers with queue := rest } }
      exact .of_loader hbattery hloader
    · exact .of_loader rfl rfl
  cases i <;> cases hi
  case powerOnReset => exact absurd rfl hp
  case pinReset => exact absurd rfl hr
  case secondBoundaryEvent r => exact absurd rfl (hb r)
  case profileAttemptEnd x => exact absurd rfl (he x)
  case resetRelease =>
    have hheld : s.loader.phase = .held := by simpa [State.isReleased] using hc
    exact ⟨rfl, by simp [State.releaseReset, State.mapLoader, hheld], rfl⟩
  case profileReadAttempt | profileAttemptTimeout | hatchLevelChange => exact ⟨rfl, Iff.rfl, rfl⟩
  case filteredStateChange =>
    obtain ⟨hphase, hprofile⟩ := s.loader.followHatch_phase s.pins.hatch
    exact ⟨rfl, by rw [← hphase]; rfl, hprofile⟩
  case refrxCharacter => exact (s.refCharacter_moves _ _).keepsCharge rfl rfl
  case referenceLoss =>
    exact (State.loseReference_moves (s.mapClock fun c => { c with lossStart := none })).keepsCharge rfl rfl
  case peerEvaluation => exact s.evaluatePeers_moves.keepsCharge rfl rfl
  case inboundBeacon =>
    exact inbound (f := State.applyBeacon) rfl fun e u => by
      obtain ⟨hloader, hbattery, -, -⟩ := (State.reexamine_moves (u.mapPeers _)).frame
      exact ⟨hbattery, hloader⟩
  case inboundOnset | inboundCoda | inboundHeat | inboundAlert | inboundAlertRaise | inboundQuery | inboundReply =>
    exact inbound rfl fun _ _ => ⟨by simp, by simp⟩
  case vote | heardAlert | heardAlertRaise | peakRequest | eventClosingTime | closingExpiry | raiseSent =>
    refine .of_loader ?_ ?_ <;> dsimp only <;> split <;> simp
  all_goals exact .of_loader (by simp) (by simp)

theorem State.boundaryEvent_chargeRuled (r : Readings) (h : s.chargeRuled) : (s.boundaryEvent r).chargeRuled := by
  unfold State.boundaryEvent
  split
  · exact h
  · rename_i sec _
    dsimp only
    generalize hu : State.countBoundary _ sec = u
    have counted : u.chargeRuled := by
      subst hu
      exact State.KeepsCharge.chargeRuled ⟨by simp [State.countBoundary, State.mapLoader],
        by simp [State.countBoundary, State.mapLoader, Loader.boundary],
        by simp [State.countBoundary, State.mapLoader, Loader.boundary]⟩ h
    split
    · rename_i hr
      have read := u.takeReading_chargeRuled r counted (by simpa [State.isRunning] using hr)
      exact State.KeepsCharge.chargeRuled (.of_loader (by simp) (by simp)) read
    · exact counted

/-- Every command keeps CHGEN ruled by its conditions. -/
theorem rule_chargeRuled (i : Instr) (condition : State → Bool) (effect : State → State)
    (hi : conductOf i = .rule condition effect) (hc : condition s = true) (h : s.chargeRuled) :
    (effect s).chargeRuled := by
  have reset {t : State} (hb : ∃ q l k, t.battery = { Battery.reset with Q := q, learned := l, keepQ := k }) :
      t.chargeRuled := by
    obtain ⟨q, l, k, hb⟩ := hb
    rw [State.chargeRuled, hb]
    simp [Battery.reset]
  by_cases hp : i = .powerOnReset
  · subst hp
    cases hi
    exact reset ⟨_, _, _, rfl⟩
  by_cases hr : i = .pinReset
  · subst hr
    cases hi
    exact reset ⟨_, _, _, rfl⟩
  by_cases hb : ∃ r, i = .secondBoundaryEvent r
  · obtain ⟨r, rfl⟩ := hb
    cases hi
    exact s.boundaryEvent_chargeRuled r h
  by_cases he : ∃ x, i = .profileAttemptEnd x
  · obtain ⟨x, rfl⟩ := he
    cases hi
    obtain ⟨n, hphase, -, -⟩ := (s.attemptEnded_eq_true x).mp hc
    obtain ⟨l, f, h1, h2, e | ⟨o, e⟩⟩ := s.endAttempt_cases (s.attemptCycles.getD 0) x <;> dsimp only <;> rw [e]
    · exact (State.KeepsCharge.of_phase s h1 h2 f).chargeRuled h
    · exact State.endLoading_chargeRuled _ o (by simp [h1, hphase])
        ((State.KeepsCharge.of_phase s h1 h2 f).chargeRuled h)
  · exact (rule_keepsCharge s i hp hr (not_exists.mp hb) (not_exists.mp he) condition effect hi hc).chargeRuled h

theorem State.countCycle_chargeRuled (h : s.chargeRuled) : s.countCycle.chargeRuled := by
  have finished : s.finishAbort.chargeRuled := by
    obtain ⟨l, h1, h2, e⟩ | ⟨hp, o, e⟩ := s.finishAbort_cases <;> rw [e]
    · exact (State.KeepsCharge.of_phase s h1 h2 s.free).chargeRuled h
    · exact s.endLoading_chargeRuled o (by simp [hp]) h
  cases hr : s.isReleased
  · rwa [s.countCycle_held hr]
  · rw [s.countCycle_eq hr]
    exact State.KeepsCharge.chargeRuled ⟨rfl, Iff.rfl, rfl⟩ finished

theorem State.countCycle_battery_of_running (h : s.loader.phase = .running) : s.countCycle.battery = s.battery := by
  rw [s.countCycle_eq (by simp [State.isReleased, h])]
  simp [State.finishAbort, h]

theorem mem_limits (x : Limit) : x ∈ limits := by
  cases x <;> simp [limits, stations]

theorem State.due_of_isSettled (h : s.isSettled = true) (x : Limit) : x.due s = false := by
  have hn : s.nextLimit = none := by simpa [State.isSettled] using h
  simpa using List.find?_eq_none.mp hn x (mem_limits x)

/-- In a settled state a command that is neither a reset, a reading nor the end of an attempt leaves the battery
monitor: no limit step is due, so none of the monitor's own is taken. -/
theorem exec_keeps_battery (i : Instr) (t : State) (h : s.isSettled = true) (ht : exec i s = .next t)
    (hp : i ≠ .powerOnReset) (hr : i ≠ .pinReset) (hb : ∀ r, i ≠ .secondBoundaryEvent r)
    (he : ∀ x, i ≠ .profileAttemptEnd x) : t.battery = s.battery := by
  rw [exec_eq_conduct] at ht
  cases hi : conductOf i with
  | limit x =>
    rw [hi] at ht
    rcases takeLimit_cases s x t ht with ⟨hd, -⟩ | ⟨-, rfl⟩
    · simp [s.due_of_isSettled h x] at hd
    · rfl
  | rule condition effect =>
    rw [hi] at ht
    have hsettled := s.settle_of_isSettled h
    rcases carryOut_cases s condition effect t ht with ⟨hc, rfl⟩ | ⟨-, rfl⟩ <;> rw [hsettled]
    rw [hsettled] at hc
    exact (rule_keepsCharge s i hp hr hb he condition effect hi hc).battery

/-- Settles O58: CHGEN's condition is read where the stage tests end and where SHED is left, and what it reads moves
only with them. -/
theorem chargeFollowsItsConditions : Obligations.ChargeFollowsItsConditions := by
  refine ⟨fun s t h ht => ?_, fun i s t => exec_keeps_battery s i t, fun s t hp hq hd ht => ?_, rfl, rfl⟩
  · exact step_keeps State.chargeRuled (fun _ _ hu => hu) (fun x u _ hu => x.effect_chargeRuled u hu)
      (fun i condition effect hi u hc hu => rule_chargeRuled u i condition effect hi hc hu)
      State.countCycle_chargeRuled s t h ht
  · simp only [step, hq, hd] at ht
    cases ht
    exact s.countCycle_battery_of_running hp

end Sys2Proof.Machine
/-! ## The profile read: the moments of its attempts, its ends, and the two lines (R189 to R193, R203) -/

namespace Sys2Proof.Machine

variable (s : State)

/-! ### Attempts and their ends (R189) -/

theorem State.attemptCycles_of_reading {n : Nat} (hp : s.loader.phase = .loading) (hb : s.loader.bus = .reading n) :
    s.attemptCycles = some n := by
  simp [State.attemptCycles, hp, hb]

section attempt

variable {n : Nat} (h : s.isSettled = true) (hp : s.loader.phase = .loading) (hb : s.loader.bus = .reading n)
include h hb

/-- A result at another moment changes nothing. -/
theorem exec_profileAttemptEnd_off (x : ProfileEnd) (hx : ¬ attemptEndsAt n x = true) :
    exec (.profileAttemptEnd x) s = .next s := by
  rw [exec_profileAttemptEnd, carryOut_of_not s _ _ h]
  rw [← Bool.not_eq_true, s.attemptEnded_eq_true]
  rintro ⟨m, -, hm, hend⟩
  rw [hb] at hm
  cases hm
  exact hx hend

include hp

/-- A result at its moment ends the attempt. -/
theorem exec_profileAttemptEnd_at (x : ProfileEnd) (hx : attemptEndsAt n x = true) :
    exec (.profileAttemptEnd x) s = .next (s.endAttempt n x) := by
  rw [exec_profileAttemptEnd, carryOut_of s _ _ h ((s.attemptEnded_eq_true x).mpr ⟨n, hp, hb, hx⟩),
    s.attemptCycles_of_reading hp hb]
  rfl

theorem exec_profileAttemptTimeout_late (hn : 100000 ≤ n) :
    exec .profileAttemptTimeout s = .next (s.failAttempt n) := by
  have hcycles := s.attemptCycles_of_reading hp hb
  rw [exec_profileAttemptTimeout, carryOut_of s _ _ h (by simpa [hcycles] using hn), hcycles]
  rfl

theorem exec_profileAttemptTimeout_early (hn : n < 100000) : exec .profileAttemptTimeout s = .next s := by
  rw [exec_profileAttemptTimeout, carryOut_of_not s _ _ h]
  simpa [s.attemptCycles_of_reading hp hb] using hn

end attempt

/-- A stop is followed by the judgement of its bytes. -/
theorem exec_profileAttemptEnd_stopped (h : s.isSettled = true) (hp : s.loader.phase = .loading)
    (hb : s.loader.bus = .reading 46200) (bytes : Vector Byte 48) :
    exec (.profileAttemptEnd (.stopped bytes)) s = .next (s.endAttempt 46200 (.stopped bytes)) :=
  exec_profileAttemptEnd_at s h hp hb _ ((attemptEndsAt_stopped _ bytes).mpr rfl)

/-- A failed attempt finishes its bit period and makes its stop condition. -/
theorem State.failAttempt_eq (n k : Nat) (hk : k = if n % 100 = 0 then 100 else 200 - n % 100) :
    s.failAttempt n = { s with loader := { s.loader with bus := .aborting k } } := by
  have hcycles : abortCycles n = k := by
    unfold abortCycles
    split at hk <;> omega
  rw [← hcycles]
  rfl

/-- Of the commands of the part's own, an attempt at its stop brings its own end first. -/
theorem State.dueCommand_of_stop (h : s.isSettled = true) (hp : s.loader.phase = .loading)
    (hb : s.loader.bus = .reading 46200) (hboundary : s.boundary = none) (hhold : s.heater.hold = .idle) :
    s.dueCommand = some (.profileAttemptEnd (.stopped s.unreportedBytes)) := by
  have hlimit : s.nextLimit = none := by simpa [State.isSettled] using h
  have hrun : s.isRunning = false := by simp [State.isRunning, hp]
  have htick : s.tickDue.isSome = false := by
    by_contra hn
    exact absurd (s.tickDue_running (Bool.not_eq_false _ ▸ hn)) (by simp [hp])
  have hcandidate : s.candidatePoint = none := by
    unfold State.candidatePoint
    split <;> simp [hrun]
  have hannouncement : s.announcementDue = none := by
    unfold State.announcementDue
    split <;> simp [hrun]
  have hlimitReached : s.holdLimitReached = false := by simp [State.holdLimitReached, hhold]
  have hattempt : s.attemptDue = false := by simp [State.attemptDue, hb]
  have hstop : s.stopReached = true := by simp [State.stopReached, s.attemptCycles_of_reading hp hb, stopCycles]
  simp [State.dueCommand, hlimit, State.timed, hboundary, hrun, htick, hcandidate, hannouncement, hlimitReached,
    State.deadlineDue, hattempt, hstop]

/-! ### The end of loading (R173, R190, R193) -/

/-- The charge that the end of loading leaves, with this capacity (R173). -/
def Battery.chargeAtStart (b : Battery) (capacity : Nat) : Nat :=
  if b.keepQ then min b.Q (3600 * capacity) else 3600 * capacity / 2

/-- The battery monitor at the end of loading. -/
def Battery.started (b : Battery) (capacity : Nat) : Battery :=
  { b with
    Q := b.chargeAtStart capacity, keepQ := false
    stage := stageOfSoc (100 * b.chargeAtStart capacity / (3600 * capacity)), loadoff := false }

theorem State.endLoading_started (o : LoadOutcome) :
    (s.endLoading o).battery = s.battery.started (loadedProfile o s.loader.image).1.capacity := by
  unfold State.endLoading
  dsimp only
  split <;> rfl

/-- The receiver hunts from the end of loading where the line is idle. -/
theorem State.endLoading_trunk (o : LoadOutcome) : (s.endLoading o).trunk =
    if s.trunk.line = .idle then { s.trunk with receiver := .hunting } else s.trunk := by
  unfold State.endLoading
  dsimp only
  split <;> rename_i h <;> simp_all [State.mapLoader, State.mapTrunk]

/-- The end of loading changes no block but these. -/
theorem State.endLoading_eq (o : LoadOutcome) : s.endLoading o = { s with
    loader := (s.endLoading o).loader, clock := (s.endLoading o).clock, trunk := (s.endLoading o).trunk
    battery := (s.endLoading o).battery, heater := (s.endLoading o).heater } := by
  have hframe := s.endLoading_frame o
  generalize s.endLoading o = t at hframe
  cases t
  simp_all

/-- The part with the bytes of an attempt that has come to its stop. -/
def State.stoppedWith (bytes : Vector Byte 48) : State :=
  { s with loader := { s.loader with image := bytes, anyStop := true }, free := s.free + 1 }

theorem State.endAttempt_valid (n : Nat) (bytes : Vector Byte 48) (h : profileSum bytes = 0xA55A) :
    s.endAttempt n (.stopped bytes) = (s.stoppedWith bytes).endLoading .valid := by
  simp only [State.endAttempt, profileValid, h, decide_true, if_true]
  rfl

theorem State.endAttempt_invalid (n : Nat) (bytes : Vector Byte 48) (h : profileSum bytes ≠ 0xA55A) :
    s.endAttempt n (.stopped bytes) = (s.stoppedWith bytes).nextAttempt := by
  simp only [State.endAttempt, profileValid, h, decide_false, Bool.false_eq_true, if_false]
  rfl

theorem State.nextAttempt_of_last (h : 3 ≤ s.loader.attempts) :
    s.nextAttempt = s.endLoading (if s.loader.anyStop then .badSum else .noAnswer) := if_pos h

theorem State.nextAttempt_of_more (h : s.loader.attempts < 3) :
    s.nextAttempt = { s with loader := { s.loader with bus := .waiting 100000 } } := if_neg (Nat.not_le.mpr h)

/-- The third attempt that stops with bad bytes ends loading. -/
theorem State.nextAttempt_of_stopped (bytes : Vector Byte 48) (h : 3 ≤ s.loader.attempts) :
    (s.stoppedWith bytes).nextAttempt = (s.stoppedWith bytes).endLoading .badSum :=
  State.nextAttempt_of_last (s.stoppedWith bytes) h

theorem State.nextAttempt_attempts : s.nextAttempt.loader.attempts = s.loader.attempts := by
  rcases Nat.lt_or_ge s.loader.attempts 3 with h | h
  · rw [s.nextAttempt_of_more h]
  · rw [s.nextAttempt_of_last h, State.endLoading_loader]

/-- A cycle takes the end of an attempt whose stop condition is complete before it counts. -/
theorem State.countCycle_of_aborted (hp : s.loader.phase = .loading) (hb : s.loader.bus = .aborting 0) :
    s.countCycle.loader = s.nextAttempt.loader.cycle s.nextAttempt.pins.hatch ∧
      s.countCycle.battery = s.nextAttempt.battery := by
  have habort : s.finishAbort = s.nextAttempt := if_pos ⟨hp, hb⟩
  rw [s.countCycle_eq (by simp [State.isReleased, hp]), habort]
  exact ⟨rfl, rfl⟩

/-- A read without valid bytes gives the defaults (R190, R191). -/
theorem loadedProfile_of_not_valid {o : LoadOutcome} (h : o ≠ .valid) (image : Vector Byte 48) :
    loadedProfile o image = (Profile.builtIn, 0) := by
  cases o
  · exact absurd rfl h
  · rfl
  · rfl

theorem noStop_ne_valid (b : Bool) : (if b then LoadOutcome.badSum else .noAnswer) ≠ .valid := by
  cases b <;> simp

/-! ### The working values (R192, R203) -/

/-- A code of two bits stands for 4, 8 or 16, and 3 is brought within range. -/
theorem drawCode_eq (x : Nat) : drawCode (x % 4) = ⟨[4, 8, 16, 16].getD (x % 4) 0, bit (decide (x % 4 = 3))⟩ := by
  have : x % 4 < 4 := Nat.mod_lt _ (by decide)
  generalize x % 4 = y at this
  interval_cases y <;> rfl

theorem changed_eq_bit {α : Type} [DecidableEq α] (v raw : α) :
    (if v = raw then 0 else 1) = bit (decide (raw ≠ v)) := by
  by_cases h : v = raw
  · simp [h, bit]
  · simp [h, Ne.symm h, bit]

theorem drawNat_eq (lo hi raw : Nat) : drawNat lo hi raw = ⟨held lo hi raw, bit (decide (raw ≠ held lo hi raw))⟩ := by
  rw [← changed_eq_bit]
  rfl

theorem drawLength_eq (raw : Nat) : drawLength raw = ⟨nearestLength raw, bit (decide (raw ≠ nearestLength raw))⟩ := by
  rw [← changed_eq_bit]
  rfl

theorem drawD_eq (raw : Nat) : drawD raw =
    ⟨held 50 1000 (raw - raw % 50), bit (decide (raw ≠ held 50 1000 (raw - raw % 50)))⟩ := by
  rw [← changed_eq_bit]
  rfl

theorem drawROff_eq (rOn raw : Nat) : drawROff rOn raw =
    ⟨min (held 16 255 raw) rOn, bit (decide (raw ≠ min (held 16 255 raw) rOn))⟩ := by
  rw [← changed_eq_bit]
  rfl

theorem drawInt_eq (x : Nat) : drawInt (-400) 850 (signed12 x) = ⟨heldTemp x, bit (tempMoved x (heldTemp x))⟩ := by
  unfold tempMoved
  rw [← changed_eq_bit]
  rfl

theorem drawChargeMax_eq (chargeMin : Int) (x : Nat) : drawChargeMax chargeMin (signed12 x) =
    ⟨max (heldTemp x) chargeMin, bit (tempMoved x (max (heldTemp x) chargeMin))⟩ := by
  unfold tempMoved
  rw [← changed_eq_bit]
  rfl

theorem bitsOf_eq (x lo len : Nat) : bitsOf x lo len = x / 2 ^ lo % 2 ^ len := rfl

theorem count_true_cons (b : Bool) (l : List Bool) : (b :: l).count true = bit b + l.count true := by
  cases b <;> simp [bit, Nat.add_comm]

/-- Valid bytes give the working values of R203, each held to its range. -/
theorem drawProfile_drawnFrom (image : Vector Byte 48) :
    (drawProfile image).1.drawnFrom (drawProfile image).2 (field image.toList) := by
  generalize hb : field image.toList = b
  simp only [drawProfile, Profile.drawnFrom, hb, bitsOf_eq, drawNat_eq, drawLength_eq, drawD_eq, drawROff_eq,
    drawInt_eq, drawChargeMax_eq, count_true_cons, List.count_nil, Nat.reducePow, Nat.div_one, drawCode_eq, true_and]
  refine ⟨congrArg (_ || ·) (decide_eq_decide.mpr (by omega)), decide_eq_decide.mpr (by omega),
    decide_eq_decide.mpr (by omega), ?_⟩
  simp only [Nat.add_assoc, Nat.add_zero]

/-! ### The two lines (R189) -/

/-- The periods of the three bytes that the part sends, with their starts and acknowledgements. -/
theorem busPeriod_sent : ∀ k < 29,
    (k = 0 ∨ k = 19) ∧ busPeriod k = .start ∨
    (1 ≤ k ∧ k ≤ 8) ∧ busPeriod k = .send ((0xA6 : BitVec 8).getLsbD (8 - k)) ∨
    (10 ≤ k ∧ k ≤ 17) ∧ busPeriod k = .send false ∨
    (20 ≤ k ∧ k ≤ 27) ∧ busPeriod k = .send ((0xA7 : BitVec 8).getLsbD (27 - k)) ∨
    (k = 9 ∨ k = 18 ∨ k = 28) ∧ busPeriod k = .listen := by
  decide

/-- The periods of the bytes that the part reads, each with its acknowledgement but the last, and the stop. -/
theorem busPeriod_read {k : Nat} (h : 29 ≤ k) : busPeriod k =
    if k < 460 ∧ (k - 29) % 9 = 8 then .acknowledge else if k ≤ 460 then .listen
    else if k = 461 then .stop else .ended := by
  have h0 : k ≠ 0 := by omega
  have h19 : ¬ k < 19 := by omega
  have hs : k ≠ 19 := by omega
  have h29 : ¬ k < 29 := by omega
  simp only [busPeriod, h0, h19, hs, h29, if_false]
  grind

section lines

variable {k c : Nat} (hc : c < 100) (hb : s.loader.bus = .reading (100 * k + c))
include hc hb

theorem State.psclLow_of_reading : s.psclLow = true ↔ 1 ≤ k ∧ k ≤ 461 ∧ c < 50 := by
  have hk : (100 * k + c) / 100 = k := by omega
  have hmod : (100 * k + c) % 100 = c := by omega
  simp only [State.psclLow, hb, hk, hmod]
  by_cases hsent : k < 29
  · rcases busPeriod_sent k hsent with ⟨hr, hp⟩ | ⟨hr, hp⟩ | ⟨hr, hp⟩ | ⟨hr, hp⟩ | ⟨hr, hp⟩ <;>
      rw [hp] <;> simp <;> omega
  · rw [busPeriod_read (Nat.le_of_not_lt hsent)]
    split_ifs <;> simp <;> omega

theorem State.psdaLow_of_reading : s.psdaLow = true ↔ (k = 0 ∨ k = 19) ∧ 75 ≤ c ∨
    1 ≤ k ∧ k ≤ 8 ∧ (0xA6 : BitVec 8).getLsbD (8 - k) = false ∨ 10 ≤ k ∧ k ≤ 17 ∨
    20 ≤ k ∧ k ≤ 27 ∧ (0xA7 : BitVec 8).getLsbD (27 - k) = false ∨ 29 ≤ k ∧ k < 460 ∧ (k - 29) % 9 = 8 ∨
    k = 461 := by
  have hk : (100 * k + c) / 100 = k := by omega
  have hmod : (100 * k + c) % 100 = c := by omega
  simp only [State.psdaLow, hb, hk, hmod]
  by_cases hsent : k < 29
  · rcases busPeriod_sent k hsent with ⟨hr, hp⟩ | ⟨hr, hp⟩ | ⟨hr, hp⟩ | ⟨hr, hp⟩ | ⟨hr, hp⟩ <;> rw [hp] <;> grind
  · rw [busPeriod_read (Nat.le_of_not_lt hsent)]
    split_ifs <;> simp <;> omega

end lines

/-- Settles O7: each result by its moment, each end of loading by what it draws and starts, and the two lines bit period
by bit period. -/
theorem profileReadEnds : Obligations.ProfileReadEnds := by
  refine ⟨fun s h hp => ⟨fun hb => ?_, fun n hb => ⟨fun k hk => ?_, fun hn => ?_, fun hn => ?_, fun hn => ?_,
    fun k hk => ?_, fun hn => ?_, fun hn bytes => ?_, fun hn => ?_⟩, fun hb hq hboundary hhold => ?_⟩,
    fun s hq hd hp hb => ?_, fun s bytes h hp hb hsum => ⟨fun ha => ?_, fun ha => ?_⟩,
    fun s bytes h hp hb hsum => ?_, fun s k c hc => ?_⟩
  · rw [exec_profileReadAttempt, carryOut_of s _ _ h (by simp [State.attemptDue, hp, hb])]
    rfl
  · rw [exec_profileAttemptEnd_at s h hp hb _ ((attemptEndsAt_notAcknowledged n k).mpr hk)]
    exact congrArg _ (s.failAttempt_eq n 125 (by rw [if_neg] <;> omega))
  · rw [exec_profileAttemptEnd_at s h hp hb _ ((attemptEndsAt_heldLow n).mpr (by omega))]
    exact congrArg _ (s.failAttempt_eq n 125 (by rw [if_neg] <;> omega))
  · rw [exec_profileAttemptEnd_at s h hp hb _ ((attemptEndsAt_heldLow n).mpr (by omega))]
    exact congrArg _ (s.failAttempt_eq n 100 (by rw [if_pos]; omega))
  · rw [exec_profileAttemptTimeout_late s h hp hb hn, s.failAttempt_eq n _ rfl]
  · exact exec_profileAttemptEnd_off s h hb _ (mt (attemptEndsAt_notAcknowledged n k).mp hk)
  · exact exec_profileAttemptEnd_off s h hb _ (mt (attemptEndsAt_heldLow n).mp (by omega))
  · exact exec_profileAttemptEnd_off s h hb _ (mt (attemptEndsAt_stopped n bytes).mp hn)
  · exact exec_profileAttemptTimeout_early s h hp hb hn
  · simp only [step, hq, s.dueCommand_of_stop h hp hb hboundary hhold]
    rfl
  · obtain ⟨hloader, hbattery⟩ := s.countCycle_of_aborted hp hb
    refine ⟨s.countCycle, by simp only [step, hq, hd], ?_, fun ha => ?_, fun ha => ?_⟩
    · rw [hloader]
      exact s.nextAttempt_attempts
    · rw [hloader, s.nextAttempt_of_more ha]
      exact ⟨hp, rfl⟩
    · rw [hloader, hbattery, s.nextAttempt_of_last ha, State.endLoading_loader,
        loadedProfile_of_not_valid (noStop_ne_valid _), State.endLoading_started]
      exact ⟨rfl, rfl, rfl, rfl, decide_eq_true (noStop_ne_valid _), rfl, rfl, rfl⟩
  · rw [exec_profileAttemptEnd_stopped s h hp hb bytes, s.endAttempt_invalid _ _ hsum,
      State.nextAttempt_of_more (s.stoppedWith bytes) ha]
    rfl
  · refine ⟨_, exec_profileAttemptEnd_stopped s h hp hb bytes, ?_⟩
    rw [s.endAttempt_invalid _ _ hsum, s.nextAttempt_of_stopped bytes ha, State.endLoading_loader,
      loadedProfile_of_not_valid (by simp)]
    exact ⟨rfl, rfl, rfl, rfl, rfl, rfl, (congrArg State.free (State.endLoading_eq _ _) :)⟩
  · refine ⟨_, exec_profileAttemptEnd_stopped s h hp hb bytes, ?_⟩
    rw [s.endAttempt_valid _ _ hsum]
    have hloader := (s.stoppedWith bytes).endLoading_loader .valid
    have hclock := (s.stoppedWith bytes).endLoading_clock .valid
    have hbattery := (s.stoppedWith bytes).endLoading_started .valid
    have htrunk := (s.stoppedWith bytes).endLoading_trunk .valid
    have heq := (s.stoppedWith bytes).endLoading_eq .valid
    generalize (s.stoppedWith bytes).endLoading .valid = t at *
    have hprofile : t.loader.profile = (drawProfile bytes).1 := by rw [hloader]; rfl
    have hclamped : t.loader.clamped = (drawProfile bytes).2 := by rw [hloader]; rfl
    refine ⟨?_, ?_, hclock, ?_, ?_, ?_, fun hl => ?_, fun hl => ?_, ?_⟩
    · rw [hprofile, hclamped, hloader]
      rfl
    · rw [hprofile, hclamped]
      exact drawProfile_drawnFrom bytes
    · rw [hbattery]
      rfl
    · rw [hprofile, hbattery]
      rfl
    · rw [hprofile, hbattery]
      rfl
    · rw [htrunk]
      exact if_pos hl
    · rw [htrunk]
      exact if_neg hl
    · conv_lhs => rw [heq]
      rfl
  · refine ⟨fun hb => ⟨s.psclLow_of_reading hc hb, s.psdaLow_of_reading hc hb⟩, fun left hb => ?_, fun hb => ?_⟩
    · simp only [State.psclLow, State.psdaLow, hb]
      exact ⟨by simp; omega, by simp⟩
    · rcases hb with hb | hb <;> simp [State.psclLow, State.psdaLow, hb]

end Sys2Proof.Machine
/-! ## The readings and the full resync, with the stage tests and the allocation that follow (R159 to R166, R168, R169,
R172, R181) -/

namespace Sys2Proof.Machine

variable (s : State)

/-! ### The stage tests (R164 to R168) -/

/-- The stage tests change the battery monitor and the heater controller alone. -/
theorem State.stageTests_eq :
    s.stageTests = { s with battery := s.stageTests.battery, heater := s.stageTests.heater } := by
  have hframe := s.stageTests_frame
  generalize s.stageTests = t at hframe
  cases t
  simp_all

/-- In SHED the tests count recovery readings, and CHGEN stays down until the sixtieth. -/
theorem State.stageTests_in_shed (h : s.battery.stage = .shed) :
    s.stageTests.battery.stage = .shed ∧ s.stageTests.battery.low = s.battery.low ∧
    s.stageTests.battery.recovery = recoveryCount s.loader.profile s.battery.voltage s.battery.recovery ∧
    (s.stageTests.battery.recovery < 60 → s.stageTests.battery.chgen = false) ∧
    (60 ≤ s.stageTests.battery.recovery → s.stageTests.battery.chgen = s.battery.chgen) := by
  rw [s.stageTests_of_shed h]
  split <;> rename_i hn
  · exact ⟨h, rfl, rfl, fun hlt => absurd hlt (Nat.not_lt.mpr hn), fun _ => rfl⟩
  · refine ⟨h, rfl, rfl, fun _ => ?_, fun hge => absurd hge hn⟩
    rw [← Bool.not_eq_true, State.setCharge, State.mapBattery_battery, State.chargeAllowed_iff]
    exact fun ⟨_, hstage, _⟩ => hstage h

/-- Outside SHED the tests count low readings; before the tenth the SoC test and CHGEN follow. -/
theorem State.stageTests_outside_shed (h : s.battery.stage ≠ .shed) :
    s.stageTests.battery.recovery = s.battery.recovery ∧
    s.stageTests.battery.low = lowCount s.loader.profile s.battery.voltage s.battery.low ∧
    (10 ≤ s.stageTests.battery.low →
      s.stageTests.battery.stage = s.battery.stage ∧ s.stageTests.battery.chgen = s.battery.chgen) ∧
    (s.stageTests.battery.low < 10 → s.stageTests.battery.stage = socTest s.battery.stage s.soc ∧
      (s.stageTests.battery.chgen = true ↔ s.battery.batteryFault = false ∧
        ∃ x, s.battery.batteryTemp = some x ∧ s.loader.profile.chargeMin ≤ x ∧ x ≤ s.loader.profile.chargeMax)) := by
  rw [s.stageTests_of_not_shed h]
  split <;> rename_i hn
  · exact ⟨rfl, rfl, fun _ => ⟨rfl, rfl⟩, fun hlt => absurd hlt (Nat.not_lt.mpr hn)⟩
  · rw [State.applySocTest_battery]
    refine ⟨rfl, rfl, fun hge => absurd hge hn, fun _ => ⟨rfl, ?_⟩⟩
    rw [State.chargeAllowed_iff]
    exact and_congr_right fun _ => and_iff_right (socTest_ne_shed _ _ h)

theorem State.stageTests_heater_of_same (h : s.stageTests.battery.stage = s.battery.stage) :
    s.stageTests.heater = s.heater := by
  rw [s.stageTests_heater, if_pos h]

/-- Where the stage tests change the stage, the heater controller allocates under the new one. -/
theorem State.stageTests_reallocates (h : s.stageTests.battery.stage ≠ s.battery.stage) :
    ({ s with battery := s.stageTests.battery } : State).reallocates s.stageTests.heater ∧
      s.stageTests.heater.computationDue = s.heater.computationDue := by
  rw [s.stageTests_heater, if_neg h]
  exact ⟨State.allocate_reallocates _, State.allocate_computationDue _⟩

/-! ### The full resync (R163) -/

/-- The part with a full charge, before any stage tests. -/
def State.filled : State :=
  s.mapBattery (fun b => { b with
    Q := 3600 * s.loader.profile.capacity, learned := true, full := 0
    counters := { b.counters with fullResyncs := min (b.counters.fullResyncs + 1) 65535 } })

theorem State.resync_alone (h : s.battery.testsDue = false) : s.resync = s.filled :=
  if_neg (by simp [State.mapBattery, h])

theorem State.resync_in_reading (h : s.battery.testsDue = true) : s.resync = s.filled.stageTests := if_pos h

theorem State.filled_soc (h : 0 < s.loader.profile.capacity) : s.filled.soc = 100 :=
  Nat.mul_div_cancel _ (by omega : 0 < 3600 * s.loader.profile.capacity)

/-- Settles O49: the resync alone, and followed by the stage tests at a charge of 100 percent. -/
theorem fullResyncFillsTheCharge : Obligations.FullResyncFillsTheCharge := by
  intro s hfull hcap
  refine ⟨s.resync, (exec_fullResync s).trans (takeLimit_of s _ (decide_eq_true hfull)), ?_⟩
  cases hdue : s.battery.testsDue with
  | false =>
    rw [s.resync_alone hdue]
    refine ⟨rfl, rfl, rfl, rfl, hdue, rfl, fun _ => rfl, nofun, nofun, nofun, fun _ => rfl,
      fun k => absurd rfl k, ?_, rfl⟩
    simp [State.filled, State.mapBattery, hdue]
  | true =>
    rw [s.resync_in_reading hdue]
    have hbattery := s.filled.stageTests_battery
    refine ⟨congrArg Battery.Q hbattery, congrArg Battery.learned hbattery, congrArg Battery.full hbattery,
      congrArg (fun b => b.counters.fullResyncs) hbattery, congrArg Battery.testsDue hbattery,
      s.filled.stageTests_loadoff, nofun, fun _ hstage hlow => ?_, fun _ hstage => ?_, fun _ hstage => ?_,
      s.filled.stageTests_heater_of_same, s.filled.stageTests_reallocates, ?_, s.filled.stageTests_eq⟩
    · obtain ⟨-, -, -, htest⟩ := s.filled.stageTests_outside_shed hstage
      obtain ⟨hsoc, -⟩ := htest hlow
      rw [hsoc, s.filled_soc hcap]
      change socTest s.battery.stage 100 = _
      cases s.battery.stage <;> rfl
    · obtain ⟨hshed, hlow, hrecovery, hdown, -⟩ := s.filled.stageTests_in_shed hstage
      refine ⟨hshed, s.filled.stageTests_heater_of_same (hshed.trans hstage.symm), hlow, hdown, fun v hv => ?_⟩
      rw [hrecovery]
      exact congrArg (fun v => recoveryCount _ v _) hv
    · obtain ⟨hrecovery, hlow, hkept, htest⟩ := s.filled.stageTests_outside_shed hstage
      refine ⟨hrecovery, fun v hv => ?_, fun hge => ?_, fun hlt => ?_⟩
      · rw [hlow]
        exact congrArg (fun v => lowCount _ v _) hv
      · obtain ⟨hstood, -⟩ := hkept hge
        exact hstood
      · obtain ⟨-, hchgen⟩ := htest hlt
        exact hchgen
    · rw [hbattery]
      rfl

/-! ### The allocation and what it reads (R179, R180, R184) -/

/-- What an allocation reads of a table of heat parts: the demands and their urgent parts, not the ages. -/
def State.heatDemands : List (Nat × Nat) := s.heatParts.map (fun p => (p.demand, p.urgent))

/-- An allocation reads the heat demands, the battery monitor, the heater controller, the clock's time and, of the
loader, the phase, the working values and the station. -/
theorem State.allocate_congr {s u : State} (hparts : u.heatDemands = s.heatDemands) (hb : u.battery = s.battery)
    (hh : u.heater = s.heater) (ht : u.clock.time = s.clock.time) (hphase : u.loader.phase = s.loader.phase)
    (hprofile : u.loader.profile = s.loader.profile) (hstation : u.loader.station = s.loader.station) :
    u.allocate.heater = s.allocate.heater := by
  have sums (f : Nat × Nat → Nat) : (u.heatParts.map fun p => f (p.demand, p.urgent)).sum =
      (s.heatParts.map fun p => f (p.demand, p.urgent)).sum := by
    have := congrArg (fun l => (l.map f).sum) hparts
    simpa [State.heatDemands, Function.comp_def] using this
  have hurgent := sums fun x => x.2
  have hrest := sums fun x => x.1 - x.2
  dsimp only at hurgent hrest
  simp only [State.allocate, State.followHeaters, State.heat0Level, State.heat1Level, State.heatersAllowed,
    State.isRunning, State.stageBudget, State.now_eq, State.profile_eq, State.own_eq, hurgent, hrest, hb, hh, ht,
    hphase, hprofile, hstation]

/-! ### A reading (R159 to R163) -/

theorem heldReadings_of_wellFormed {r : Readings} (h : r.wellFormed = true) : heldReadings r = r := by
  obtain ⟨v, i, b, e⟩ := r
  simp only [Readings.wellFormed, Bool.and_eq_true, decide_eq_true_eq] at h
  simp only [heldReadings, clampInt, Readings.mk.injEq]
  omega

theorem tempFault_iff {x : Int} (hlo : -400 ≤ x) (hhi : x ≤ 850) : tempFault x = true ↔ x = -400 ∨ x = 850 := by
  simp only [tempFault, Bool.or_eq_true, decide_eq_true_eq]
  omega

theorem countIf_tempFault {x : Int} (hlo : -400 ≤ x) (hhi : x ≤ 850) (n : Nat) :
    countIf (tempFault x) n = if x = -400 ∨ x = 850 then min (n + 1) 65535 else n := by
  simp only [countIf, bump16, tempFault_iff hlo hhi]

theorem chargeAfter_cast (q qCap : Nat) (i : Int) :
    (chargeAfter q qCap i : Int) = max 0 (min ((q : Int) + (if i ≤ 0 then i else 15 * i / 16)) qCap) :=
  Int.toNat_of_nonneg (le_max_left _ _)

theorem fullCondition_iff (p : Profile) (r : Readings) : fullCondition p r = true ↔
    (p.vFull : Int) ≤ r.voltage ∧ 0 ≤ r.current ∧ r.current ≤ (p.iTaper : Int) := by
  simp [fullCondition, and_assoc]

/-- The battery monitor with a reading's values, charge and full count, before any stage tests. -/
def State.readingCounted (r : Readings) : State :=
  s.mapBattery (fun b => (b.takeValues r).count s.loader.profile r)

theorem State.takeReading_full {r : Readings} (hr : r.wellFormed = true)
    (h : 600 ≤ (s.readingCounted r).battery.full) :
    s.takeReading r = (s.readingCounted r).mapBattery (fun b => { b with testsDue := true }) := by
  rw [State.takeReading, heldReadings_of_wellFormed hr]
  exact if_pos h

theorem State.takeReading_tested {r : Readings} (hr : r.wellFormed = true)
    (h : ¬ 600 ≤ (s.readingCounted r).battery.full) : s.takeReading r = (s.readingCounted r).stageTests := by
  rw [State.takeReading, heldReadings_of_wellFormed hr]
  exact if_neg h

/-- What a reading leaves of the battery monitor. -/
theorem State.takeReading_battery {r : Readings} (hr : r.wellFormed = true) :
    (s.takeReading r).battery = { (s.readingCounted r).battery with
      low := (s.takeReading r).battery.low, recovery := (s.takeReading r).battery.recovery
      stage := (s.takeReading r).battery.stage, testsDue := (s.takeReading r).battery.testsDue
      chgen := (s.takeReading r).battery.chgen
      counters := { (s.readingCounted r).battery.counters with
        stageChanges := if (s.takeReading r).battery.stage = s.battery.stage then s.battery.counters.stageChanges
          else min (s.battery.counters.stageChanges + 1) 65535 } } := by
  by_cases h : 600 ≤ (s.readingCounted r).battery.full
  · rw [s.takeReading_full hr h]
    simp [State.mapBattery, State.readingCounted, Battery.takeValues, Battery.count]
  · rw [s.takeReading_tested hr h, State.stageTests_battery]
    rfl

/-- The heater controller after a reading. -/
theorem State.takeReading_heater {r : Readings} (hr : r.wellFormed = true) : (s.takeReading r).heater =
    if (s.takeReading r).battery.stage = s.battery.stage then s.heater
    else ({ s with battery := (s.takeReading r).battery } : State).allocate.heater := by
  by_cases h : 600 ≤ (s.readingCounted r).battery.full
  · rw [s.takeReading_full hr h]
    exact (if_pos rfl).symm
  · rw [s.takeReading_tested hr h]
    exact State.stageTests_heater _

/-! ### The reading of a second boundary event (R159, R174) -/

theorem State.heatDemands_eq : s.heatDemands =
    stations.filterMap (fun n => (s.peers.row n).heat.map (fun p => (p.demand, p.urgent))) :=
  List.map_filterMap

/-- The boundary's own counts leave what a reading and its allocation read: the heat parts age, and no more. -/
theorem State.boundaryAnnounced_heatDemands (r : Readings) : (s.boundaryAnnounced r).heatDemands = s.heatDemands := by
  rw [State.heatDemands_eq, State.heatDemands_eq, s.boundaryAnnounced_frame r]
  refine List.filterMap_congr fun n _ => ?_
  have hrow : (s.boundaryCounted r).peers.row n = s.ageRow (s.peers.row n) := by
    simp [State.boundaryCounted, Peers.row]
  rw [show Peers.row _ n = _ from hrow]
  simp [State.ageRow, Function.comp_def]

/-- What the boundary's own counts leave as the reading and its allocation read it. -/
theorem State.boundaryAnnounced_kept (r : Readings) :
    (s.boundaryAnnounced r).battery = s.battery ∧ (s.boundaryAnnounced r).heater = s.heater ∧
    (s.boundaryAnnounced r).clock.time = s.clock.time ∧ (s.boundaryAnnounced r).loader = s.loader.boundary := by
  rw [s.boundaryAnnounced_frame r]
  refine ⟨rfl, rfl, ?_, rfl⟩
  simp only [State.boundaryCounted, Clock.boundary]
  split <;> rfl

theorem State.boundaryAnnounced_counted (r : Readings) : ((s.boundaryAnnounced r).readingCounted r).battery =
    (s.battery.takeValues r).count s.loader.profile r := by
  obtain ⟨hbattery, -, -, hloader⟩ := s.boundaryAnnounced_kept r
  rw [State.readingCounted, State.mapBattery_battery, hbattery, hloader]
  rfl

/-- The allocation of a reading's stage change is that of the part before the boundary, under the new stage. -/
theorem State.boundaryAnnounced_allocate (r : Readings) (b : Battery) :
    ({ s.boundaryAnnounced r with battery := b } : State).allocate.heater =
      ({ s with battery := b } : State).allocate.heater := by
  obtain ⟨-, hheater, htime, hloader⟩ := s.boundaryAnnounced_kept r
  exact State.allocate_congr (s.boundaryAnnounced_heatDemands r) rfl hheater htime
    (congrArg Loader.phase hloader :) (congrArg Loader.profile hloader :) (congrArg Loader.station hloader :)

theorem State.bringComputation_heater (sec : BitVec 32) : (s.bringComputation sec).heater =
    { s.heater with computationDue := (s.bringComputation sec).heater.computationDue } := by
  unfold State.bringComputation
  split <;> rfl

/-- The part after the second boundary event of RUNNING, with its reading and the mark of a computation. -/
def State.boundaryRead (r : Readings) : State :=
  ((s.boundaryAnnounced r).takeReading r).bringComputation s.clock.time.sec

theorem exec_secondBoundaryEvent_running (r : Readings) (h : s.isSettled = true) (hp : s.loader.phase = .running)
    (hb : s.atBoundary) : exec (.secondBoundaryEvent r) s = .next (s.boundaryRead r) := by
  rw [exec_secondBoundaryEvent, carryOut_of s _ _ h (by simp [State.isReleased, hp, s.boundary_of_atBoundary hb]),
    s.boundaryEvent_eq r hb, if_pos (by simp [State.isRunning, hp])]
  rfl

theorem State.boundaryRead_battery_eq (r : Readings) :
    (s.boundaryRead r).battery = ((s.boundaryAnnounced r).takeReading r).battery := by
  simp [State.boundaryRead]

/-- What the reading leaves of the battery monitor. -/
theorem State.boundaryRead_battery {r : Readings} (hr : r.wellFormed = true) :
    (s.boundaryRead r).battery = { (s.battery.takeValues r).count s.loader.profile r with
      low := (s.boundaryRead r).battery.low, recovery := (s.boundaryRead r).battery.recovery
      stage := (s.boundaryRead r).battery.stage, testsDue := (s.boundaryRead r).battery.testsDue
      chgen := (s.boundaryRead r).battery.chgen
      counters := { ((s.battery.takeValues r).count s.loader.profile r).counters with
        stageChanges := if (s.boundaryRead r).battery.stage = s.battery.stage then s.battery.counters.stageChanges
          else min (s.battery.counters.stageChanges + 1) 65535 } } := by
  obtain ⟨hbattery, -, -, -⟩ := s.boundaryAnnounced_kept r
  have hread := (s.boundaryAnnounced r).takeReading_battery hr
  rwa [s.boundaryAnnounced_counted r, hbattery, ← s.boundaryRead_battery_eq r] at hread

/-- The reading that completes the full count leaves the stage tests to the resync. -/
theorem State.boundaryRead_full {r : Readings} (hr : r.wellFormed = true)
    (h : 600 ≤ ((s.battery.takeValues r).count s.loader.profile r).full) :
    (s.boundaryRead r).battery = { (s.battery.takeValues r).count s.loader.profile r with testsDue := true } := by
  have hcounted := s.boundaryAnnounced_counted r
  rw [s.boundaryRead_battery_eq, State.takeReading_full _ hr (by rwa [hcounted]), State.mapBattery_battery, hcounted]

/-- Every other reading makes its stage tests, on what it has counted. -/
theorem State.boundaryRead_tested {r : Readings} (hr : r.wellFormed = true)
    (h : ((s.battery.takeValues r).count s.loader.profile r).full < 600) :
    ∃ c : State, c.battery = (s.battery.takeValues r).count s.loader.profile r ∧
      c.loader.profile = s.loader.profile ∧ (s.boundaryRead r).battery = c.stageTests.battery := by
  have hcounted := s.boundaryAnnounced_counted r
  obtain ⟨-, -, -, hloader⟩ := s.boundaryAnnounced_kept r
  refine ⟨(s.boundaryAnnounced r).readingCounted r, hcounted, (congrArg Loader.profile hloader :), ?_⟩
  rw [s.boundaryRead_battery_eq, State.takeReading_tested _ hr (by rwa [hcounted, Nat.not_le])]

/-- The stage tests of a reading in SHED. -/
theorem State.boundaryRead_in_shed {r : Readings} (hr : r.wellFormed = true)
    (h : ((s.battery.takeValues r).count s.loader.profile r).full < 600) (hs : s.battery.stage = .shed) :
    (s.boundaryRead r).battery.stage = .shed ∧ (s.boundaryRead r).battery.low = s.battery.low ∧
    (s.boundaryRead r).battery.recovery =
      (if (s.loader.profile.vShed : Int) + 500 ≤ r.voltage then s.battery.recovery + 1 else 0) ∧
    ((s.boundaryRead r).battery.recovery < 60 → (s.boundaryRead r).battery.chgen = false) ∧
    (60 ≤ (s.boundaryRead r).battery.recovery → (s.boundaryRead r).battery.chgen = s.battery.chgen) := by
  obtain ⟨c, hcounted, hprofile, htested⟩ := s.boundaryRead_tested hr h
  have htests := c.stageTests_in_shed (by rw [hcounted]; exact hs)
  rwa [← htested, hcounted, hprofile] at htests

/-- The stage tests of a reading outside SHED. -/
theorem State.boundaryRead_outside_shed {r : Readings} (hr : r.wellFormed = true)
    (h : ((s.battery.takeValues r).count s.loader.profile r).full < 600) (hs : s.battery.stage ≠ .shed) :
    (s.boundaryRead r).battery.recovery = s.battery.recovery ∧
    (s.boundaryRead r).battery.low =
      (if r.voltage < (s.loader.profile.vShed : Int) then s.battery.low + 1 else 0) ∧
    (10 ≤ (s.boundaryRead r).battery.low →
      (s.boundaryRead r).battery.stage = s.battery.stage ∧ (s.boundaryRead r).battery.chgen = s.battery.chgen) ∧
    ((s.boundaryRead r).battery.low < 10 →
      (s.boundaryRead r).battery.stage =
        socTest s.battery.stage (100 * (s.boundaryRead r).battery.Q / (3600 * s.loader.profile.capacity)) ∧
      ((s.boundaryRead r).battery.chgen = true ↔ tempFault r.batteryTemp = false ∧
        s.loader.profile.chargeMin ≤ r.batteryTemp ∧ r.batteryTemp ≤ s.loader.profile.chargeMax)) := by
  obtain ⟨c, hcounted, hprofile, htested⟩ := s.boundaryRead_tested hr h
  obtain ⟨hrecovery, hlow, hkept, htest⟩ := c.stageTests_outside_shed (by rw [hcounted]; exact hs)
  have hsoc : c.soc = 100 * (s.boundaryRead r).battery.Q / (3600 * s.loader.profile.capacity) := by
    rw [htested, c.stageTests_battery, State.soc, State.profile_eq, hprofile]
    rfl
  rw [← htested, hcounted] at hrecovery hkept
  rw [← htested, hcounted, hprofile] at hlow
  rw [← htested, hcounted, hprofile, hsoc] at htest
  refine ⟨hrecovery, hlow, hkept, fun hlt => ?_⟩
  obtain ⟨hstage, hchgen⟩ := htest hlt
  refine ⟨hstage, hchgen.trans (and_congr_right fun _ => ?_)⟩
  simp [Battery.takeValues, Battery.count]

/-- The heater controller after the reading: as it was, or allocated again under the new stage, but for the mark of a
computation. -/
theorem State.boundaryRead_heater {r : Readings} (hr : r.wellFormed = true) : (s.boundaryRead r).heater =
    { (if (s.boundaryRead r).battery.stage = s.battery.stage then s.heater
        else ({ s with battery := (s.boundaryRead r).battery } : State).allocate.heater) with
      computationDue := (s.boundaryRead r).heater.computationDue } := by
  obtain ⟨hbattery, hheater, -, -⟩ := s.boundaryAnnounced_kept r
  have hread := (s.boundaryAnnounced r).takeReading_heater hr
  rw [s.boundaryAnnounced_allocate, hbattery, hheater, ← s.boundaryRead_battery_eq r] at hread
  rw [← hread]
  exact State.bringComputation_heater _ _

/-- An allocation that the mark of a computation follows. -/
theorem State.reallocates_marked (due : Bool) :
    s.reallocates { s.allocate.heater with computationDue := due } := by
  refine ⟨rfl, ?_⟩
  rw [s.allocate_heater]

/-- Settles O19: what the reading writes, then the stage tests in SHED and outside it. -/
theorem readingsDriveTheStage : Obligations.ReadingsDriveTheStage := by
  refine ⟨fun s r h hp hb hr => ⟨s.boundaryRead r, exec_secondBoundaryEvent_running s r h hp hb, ?_⟩,
    fun s r h hp hb hr => ⟨s.boundaryRead r, exec_secondBoundaryEvent_running s r h hp hb, ?_⟩⟩
  · have hread := s.boundaryRead_battery hr
    have hheat := s.boundaryRead_heater hr
    have hrange := hr
    simp only [Readings.wellFormed, Bool.and_eq_true, decide_eq_true_eq] at hrange
    generalize s.boundaryRead r = t at hread hheat
    refine ⟨congrArg Battery.voltage hread, congrArg Battery.current hread, congrArg Battery.batteryTemp hread,
      congrArg Battery.enclosureTemp hread, ?_, ?_, ?_, ?_, congrArg (fun b => b.counters.stageChanges) hread, ?_, ?_,
      ?_, fun hsame => ?_, fun hchange => ?_⟩
    · rw [hread]
      exact tempFault_iff (by omega) (by omega)
    · rw [hread]
      exact tempFault_iff (by omega) (by omega)
    · rw [hread]
      exact countIf_tempFault (by omega) (by omega) _
    · rw [hread]
      exact countIf_tempFault (by omega) (by omega) _
    · rw [hread]
      exact chargeAfter_cast _ _ _
    · rw [hread]
      exact if_congr (fullCondition_iff _ r) rfl rfl
    · rw [hread]
      rfl
    · rwa [if_pos hsame] at hheat
    · rw [if_neg hchange] at hheat
      rw [hheat]
      exact State.reallocates_marked _ _
  · have hfull : (s.boundaryRead r).battery.full = ((s.battery.takeValues r).count s.loader.profile r).full :=
      (congrArg Battery.full (s.boundaryRead_battery hr) :)
    refine ⟨fun hge => ?_, fun hlt => ⟨?_, fun hs => ?_, s.boundaryRead_in_shed hr (hfull ▸ hlt)⟩⟩
    · rw [s.boundaryRead_full hr (hfull ▸ hge)]
      exact ⟨rfl, rfl, rfl, rfl, rfl⟩
    · obtain ⟨c, -, -, htested⟩ := s.boundaryRead_tested hr (hfull ▸ hlt)
      rw [htested, c.stageTests_battery]
    · obtain ⟨hrecovery, hlow, hkept, htest⟩ := s.boundaryRead_outside_shed hr (hfull ▸ hlt) hs
      refine ⟨hrecovery, hkept, hlow, fun h10 => ?_⟩
      obtain ⟨hstage, hchgen⟩ := htest h10
      exact ⟨hstage, hchgen.trans (by simp [tempFault, and_assoc])⟩

end Sys2Proof.Machine
/-! ## The allocation: the sums, the budget and the grant (R169, R179, R181) -/

namespace Sys2Proof.Machine

variable (s : State)

/-! ### The grant (R179) -/

/-- The grant never exceeds the own demand or the budget, where the sums hold the own demand's two parts. -/
theorem grant_le {demand urgent u n budget : Nat} (hd : urgent ≤ demand) (hu : urgent ≤ u) (hn : demand - urgent ≤ n) :
    grant demand urgent u n budget ≤ demand ∧ grant demand urgent u n budget ≤ budget := by
  unfold grant
  split_ifs with hall hover
  · exact ⟨le_rfl, by omega⟩
  · rcases Nat.eq_zero_or_pos u with rfl | hpos
    · simp
    · have hbudget : urgent * budget / u ≤ budget :=
        Nat.div_le_of_le_mul (Nat.mul_le_mul_right budget hu)
      have hurgent : urgent * budget / u ≤ urgent :=
        Nat.div_le_of_le_mul (by rw [Nat.mul_comm u]; exact Nat.mul_le_mul_left urgent hover)
      exact ⟨hurgent.trans hd, hbudget⟩
  · have hrest : (demand - urgent) * (budget - u) / n ≤ demand - urgent :=
      Nat.div_le_of_le_mul (by rw [Nat.mul_comm n]; exact Nat.mul_le_mul_left _ (by omega))
    have hspare : (demand - urgent) * (budget - u) / n ≤ budget - u :=
      Nat.div_le_of_le_mul (Nat.mul_le_mul_right _ hn)
    omega

/-- A part of the table is in both sums. -/
theorem State.heatPart_le {n : Station} {p : HeatPart} (h : (s.peers.row n).heat = some p) :
    p.urgent ≤ (s.heatParts.map (fun p => p.urgent)).sum ∧
      p.demand - p.urgent ≤ (s.heatParts.map (fun p => p.demand - p.urgent)).sum := by
  have hmem : p ∈ s.heatParts := List.mem_filterMap.mpr ⟨n, List.mem_finRange n, h⟩
  exact ⟨List.single_le_sum (fun _ _ => Nat.zero_le _) _ (List.mem_map_of_mem hmem),
    List.single_le_sum (fun _ _ => Nat.zero_le _) _ (List.mem_map_of_mem hmem)⟩

/-- The own demand, its urgent part within it, is that of the own row, or there is none of either. -/
def State.ownHeatHolds : Prop :=
  s.heater.urgent ≤ s.heater.demand ∧
    ((∃ p, (s.peers.row s.loader.station).heat = some p ∧ p.demand = s.heater.demand ∧ p.urgent = s.heater.urgent) ∨
     (s.peers.row s.loader.station).heat = none ∧ s.heater.demand = 0)

theorem State.ownHeatHolds.grant_le {s : State} (h : s.ownHeatHolds) :
    s.allocate.heater.G ≤ s.heater.demand ∧ s.allocate.heater.G ≤ s.stageBudget := by
  obtain ⟨hurgent, ⟨p, hp, hd, hu⟩ | ⟨-, hd⟩⟩ := h
  · obtain ⟨hsum, hrest⟩ := s.heatPart_le hp
    exact Machine.grant_le hurgent (hu ▸ hsum) (hd ▸ hu ▸ hrest)
  · exact Machine.grant_le hurgent (by omega) (by omega)

/-! ### The allocation of a computation (R174 to R178) -/

/-- A HEAT request leaves the heater controller but for the time of the last one and the counters of its outcomes. -/
theorem State.requestHeat_heater : s.requestHeat.heater = { s.heater with
    lastRequest := some s.clock.time, counters := s.requestHeat.heater.counters } := by
  unfold State.requestHeat
  dsimp only
  obtain ⟨v, heq | ⟨old, heq⟩⟩ := State.request_cases _ .heat _ _ _ _ <;> rw [heq] <;> rfl

theorem State.announceChange_heater : s.announceChange.heater = { s.heater with
    lastRequest := s.announceChange.heater.lastRequest, counters := s.announceChange.heater.counters } := by
  unfold State.announceChange
  split
  · rw [s.requestHeat_heater]
  · rfl

/-- A computation writes the own demand into the own row, with its urgent part. -/
theorem State.computeDemand_ownHeatHolds : s.computeDemand.ownHeatHolds := by
  refine ⟨?_, .inl ⟨_, congrArg Row.heat (Peers.row_setRow_self _ _ _), rfl, rfl⟩⟩
  simp only [State.computeDemand]
  split <;> omega

theorem State.announceChange_ownHeatHolds (h : s.ownHeatHolds) : s.announceChange.ownHeatHolds := by
  obtain ⟨-, hloader, -, -, hpeers, -⟩ := s.announceChange_frame
  rw [State.ownHeatHolds, s.announceChange_heater, hloader, hpeers]
  exact h

/-- The part at a computation, before its allocation. -/
def State.demandAnnounced : State :=
  ({ s with heater := { s.heater with computationDue := false } } : State).computeDemand.announceChange

theorem exec_computation_of_computes (h : s.computes) :
    exec .computation s = .next s.demandAnnounced.allocate := by
  obtain ⟨hsettled, hphase, hdue⟩ := h
  rw [exec_computation, carryOut_of s _ _ hsettled (by simp [State.isRunning, hphase, hdue])]
  rfl

/-! ### The allocation -/

theorem grant_eq (demand urgent u n budget : Nat) : grant demand urgent u n budget =
    if u + n ≤ budget then demand
    else if budget ≤ u then (if u = 0 then 0 else urgent * budget / u)
    else urgent + (demand - urgent) * (budget - u) / n := by
  unfold grant
  by_cases hu : u = 0
  · simp [hu]
  · simp [hu]

/-- Settles O52: the notice of a stage change, then the allocation of the demand that the own row holds. -/
theorem heatIsGranted : Obligations.HeatIsGranted := by
  refine ⟨fun s x => ⟨_, rfl, rfl, rfl, rfl, rfl, rfl, rfl, rfl, rfl, rfl, rfl⟩, fun s t h => ?_⟩
  obtain ⟨v, rfl, hbattery, hprofile, hown⟩ : ∃ v : State, t = v.allocate ∧ v.battery = s.battery ∧
      v.loader.profile = s.loader.profile ∧ v.ownHeatHolds := by
    rcases h with ⟨hcomputes, hexec⟩ | ⟨rfl, hown⟩
    · rw [exec_computation_of_computes s hcomputes] at hexec
      cases hexec
      exact ⟨_, rfl, by simp [State.demandAnnounced], by simp [State.demandAnnounced],
        State.announceChange_ownHeatHolds _ (State.computeDemand_ownHeatHolds _)⟩
    · exact ⟨s, rfl, rfl, rfl, hown⟩
  obtain ⟨hdemand, hbudget⟩ := hown.grant_le
  rw [← hbattery, ← hprofile]
  exact ⟨rfl, rfl, rfl, grant_eq _ _ _ _ _, hdemand, hbudget⟩

end Sys2Proof.Machine
/-! ## The heater controller's computation, announcements, outputs and quiet hold (R174 to R180, R182 to R185) -/

namespace Sys2Proof.Machine

variable (s : State)

/-! ### The outputs (R184, R185) -/

theorem State.heat0Level_iff :
    s.heat0Level = true ↔ s.drives (625000 * s.loader.station.val) s.heater.steps0 := s.drives_iff _ _

theorem State.heat1Level_iff :
    s.heat1Level = true ↔ s.drives ((625000 * s.loader.station.val + 5000000) % 10000000) s.heater.steps1 := by
  rw [Nat.add_comm (625000 * s.loader.station.val)]
  exact s.drives_iff _ _

/-- A window reads the phase, the stage, the hold and station time. -/
theorem State.drives_congr {s u : State} (hphase : u.loader.phase = s.loader.phase)
    (hstage : u.battery.stage = s.battery.stage) (hhold : u.heater.hold = s.heater.hold)
    (htime : u.clock.time = s.clock.time) (offset steps : Nat) : u.drives offset steps ↔ s.drives offset steps := by
  simp only [State.drives, hphase, hstage, hhold, htime]

/-- Outputs that stand as their windows drive them are those that follow the heaters' conditions. -/
theorem State.eq_followHeaters {s t : State}
    (ht : t = { s with heater := { s.heater with out0 := t.heater.out0, out1 := t.heater.out1 } })
    (h0 : t.heater.out0 = true ↔ t.drives (625000 * s.loader.station.val) s.heater.steps0)
    (h1 : t.heater.out1 = true ↔ t.drives ((625000 * s.loader.station.val + 5000000) % 10000000) s.heater.steps1) :
    t = s.followHeaters := by
  have hdrives (offset steps : Nat) : t.drives offset steps ↔ s.drives offset steps := by
    rw [ht]
    rfl
  rw [hdrives, ← s.heat0Level_iff, Bool.coe_iff_coe] at h0
  rw [hdrives, ← s.heat1Level_iff, Bool.coe_iff_coe] at h1
  rw [ht, h0, h1]
  rfl

/-! ### Requests and demand (R175, R176) -/

theorem usableTemp_eq_none {reading : Option Int} {fault : Bool} (h : fault = true ∨ reading = none) :
    usableTemp reading fault = none := by
  rcases h with rfl | rfl <;> simp [usableTemp]

theorem usableTemp_eq_some {reading : Option Int} {fault : Bool} {x : Int} (hf : fault = false)
    (hr : reading = some x) : usableTemp reading fault = some x := by
  simp [usableTemp, hf, hr]

/-- A request from a usable reading, as an integer: the shortfall is positive, so nothing is cut off at 0. -/
theorem heatRequest_some (x setpoint : Int) (gain : Nat) : (heatRequest (some x) setpoint gain : Int) =
    if x < setpoint then min ((setpoint - x) * (gain : Int) / 10) 32 else 0 := by
  simp only [heatRequest]
  split_ifs with hlow
  · have hpos : 0 ≤ (setpoint - x) * (gain : Int) / 10 :=
      Int.ediv_nonneg (Int.mul_nonneg (by omega) (Int.natCast_nonneg gain)) (by decide)
    rw [Nat.cast_min, Int.toNat_of_nonneg hpos]
    rfl
  · rfl

/-- The part at a computation, before its announcement. -/
def State.demandComputed : State :=
  ({ s with heater := { s.heater with computationDue := false } } : State).computeDemand

theorem State.demandAnnounced_eq : s.demandAnnounced = s.demandComputed.announceChange := rfl

/-- What an announcement and an allocation leave of the heater controller after the demand of a computation. -/
theorem State.computed_heater {t : State} (h : t = s.demandAnnounced.allocate) :
    t.heater = { s.demandComputed.heater with
      lastRequest := s.demandAnnounced.heater.lastRequest, counters := s.demandAnnounced.heater.counters
      U := t.heater.U, Nh := t.heater.Nh, budget := t.heater.budget, G := t.heater.G
      grant0 := t.heater.grant0, grant1 := t.heater.grant1, steps0 := t.heater.steps0, steps1 := t.heater.steps1
      out0 := t.heater.out0, out1 := t.heater.out1 } := by
  have hannounce := s.demandComputed.announceChange_heater
  rw [← s.demandAnnounced_eq] at hannounce
  have hallocate := s.demandAnnounced.allocate_heater
  rw [← h] at hallocate
  rw [hallocate, hannounce]

/-! ### HEAT requests and the change announcement (R177, R178) -/

/-- The HEAT request that the demand makes at this moment. -/
def State.heatRequestNow : Request :=
  { body := leBytes 2 s.heater.demand ++ leBytes 2 s.heater.urgent, ref := .demand s.heater.demand
    time := s.clock.time, deadline := some (s.clock.time.add 50000000), attempts := 0, capture := none
    mark := false }

theorem State.requestHeat_of_empty (h : s.sched.slots.heat = .empty) : s.requestHeat = { s with
    heater := { s.heater with lastRequest := some s.clock.time }
    sched := { s.sched with slots := { s.sched.slots with heat := .ready s.heatRequestNow } } } :=
  State.request_of_empty _ .heat _ _ _ _ h

/-- The HEAT request that waits in its slot is superseded, and the heater controller counts it as not sent. -/
theorem State.requestHeat_of_ready {r : Request} (h : s.sched.slots.heat = .ready r) :
    s.requestHeat.sched.slots.heat = .ready s.heatRequestNow ∧
    s.requestHeat.sched.history.head? = some ⟨.heat, r.time, r.capture, r.attempts, .superseded⟩ ∧
    s.requestHeat.heater.counters.notSent = min (s.heater.counters.notSent + 1) 65535 := by
  have heq : s.requestHeat = ((({ s with heater := { s.heater with lastRequest := some s.clock.time } } : State).setSlot
      .heat (.ready s.heatRequestNow)).leave .heat r .superseded) :=
    State.request_of_ready _ s.heatRequestNow rfl rfl rfl h
  rw [heq]
  exact ⟨rfl, rfl, rfl⟩

/-- A HEAT request changes the heater controller and the scheduler alone. -/
theorem State.requestHeat_eq :
    s.requestHeat = { s with heater := s.requestHeat.heater, sched := s.requestHeat.sched } := by
  unfold State.requestHeat
  dsimp only
  obtain ⟨v, heq | ⟨old, heq⟩⟩ := State.request_cases _ .heat _ _ _ _ <;> rw [heq] <;> rfl

theorem State.demandMoved_iff : s.demandMoved = true ↔ s.heater.announced = none ∨ ∃ a, s.heater.announced = some a ∧
    max 1 (s.loader.profile.bVault / 16) ≤ ((s.heater.demand : Int) - (a : Int)).natAbs := by
  cases h : s.heater.announced <;> simp [State.demandMoved, h, and_comm]

theorem State.recentHeat_iff :
    s.recentHeat = true ↔ ∃ x, s.heater.lastRequest = some x ∧ s.clock.time.diff x ≤ 100000000 := by
  cases h : s.heater.lastRequest <;> simp [State.recentHeat, h]

theorem State.announceChange_of (hmoved : s.demandMoved = true) (hrecent : s.recentHeat = false) :
    s.announceChange = s.requestHeat := if_pos (by simp [hmoved, hrecent])

theorem State.announceChange_of_not (h : s.demandMoved = false ∨ s.recentHeat = true) : s.announceChange = s :=
  if_neg (by rcases h with h | h <;> simp [h])

theorem State.announceChange_eq :
    s.announceChange = { s with heater := s.announceChange.heater, sched := s.announceChange.sched } := by
  unfold State.announceChange
  split
  · exact s.requestHeat_eq
  · rfl

/-- A computation changes the heater controller, the own row and the scheduler alone. -/
theorem State.computed_eq {t : State} (h : t = s.demandAnnounced.allocate) :
    t = { s with heater := t.heater, peers := t.peers, sched := t.sched } := by
  have hannounce := s.demandComputed.announceChange_eq
  rw [← s.demandAnnounced_eq] at hannounce
  rw [h, State.allocate_eq, hannounce]
  rfl

/-- The requests of a computation, from the usable readings. -/
theorem State.computed_requests {t : State} (h : t = s.demandAnnounced.allocate) :
    t.heater.h0 = heatRequest (usableTemp s.battery.batteryTemp s.battery.batteryFault)
      s.loader.profile.warmSetpoint s.loader.profile.gain ∧
    t.heater.h0Urgent = heatUrgent (usableTemp s.battery.batteryTemp s.battery.batteryFault)
      s.loader.profile.chargeMin ∧
    t.heater.h1 = heatRequest (usableTemp s.battery.enclosureTemp s.battery.enclosureFault)
      s.loader.profile.enclosureSetpoint s.loader.profile.gain := by
  rw [s.computed_heater h]
  exact ⟨rfl, rfl, rfl⟩

/-- The demand of a computation, from its requests. -/
theorem State.computed_demand {t : State} (h : t = s.demandAnnounced.allocate) :
    t.heater.demand0 = t.heater.h0 * s.loader.profile.rating0 / 32 ∧
    t.heater.demand1 = t.heater.h1 * s.loader.profile.rating1 / 32 ∧
    t.heater.demand = t.heater.demand0 + t.heater.demand1 ∧
    t.heater.urgent = if t.heater.h0Urgent then t.heater.demand0 else 0 := by
  rw [s.computed_heater h]
  exact ⟨rfl, rfl, rfl, rfl⟩

/-- The demand of a computation stands in the own row's heat part, and no other row changes. -/
theorem State.computed_row {t : State} (h : t = s.demandAnnounced.allocate) :
    (t.peers.row s.loader.station).heat = some ⟨t.heater.demand, t.heater.urgent, 0⟩ ∧
    ∀ n, n ≠ s.loader.station → t.peers.row n = s.peers.row n := by
  have hpeers : t.peers = s.demandComputed.peers := by simp [h, s.demandAnnounced_eq]
  rw [hpeers, s.computed_heater h]
  exact ⟨congrArg Row.heat (Peers.row_setRow_self _ _ _), fun n hn => Peers.row_setRow_other _ _ _ _ hn⟩

/-- The announcement of a computation is decided on the demand that the computation leaves. -/
theorem State.computed_demandMoved_iff {t : State} (h : t = s.demandAnnounced.allocate) :
    s.demandComputed.demandMoved = true ↔ s.heater.announced = none ∨ ∃ a, s.heater.announced = some a ∧
      max 1 (s.loader.profile.bVault / 16) ≤ ((t.heater.demand : Int) - (a : Int)).natAbs := by
  rw [s.demandComputed.demandMoved_iff, s.computed_heater h]
  rfl

theorem State.computed_recentHeat_iff :
    s.demandComputed.recentHeat = true ↔ ∃ x, s.heater.lastRequest = some x ∧ s.clock.time.diff x ≤ 100000000 :=
  s.demandComputed.recentHeat_iff

/-- Settles O51: the requests and the demand of the computation, then the announcement made and the one held back. -/
theorem demandIsComputedAndAnnounced : Obligations.DemandIsComputedAndAnnounced := by
  refine ⟨fun s h => ⟨_, exec_computation_of_computes s h, ?_⟩, fun s t r h hexec hr hmoved hlast hempty => ?_,
    fun s t h hexec hquiet => ?_⟩
  · obtain ⟨hh0, hurgent, hh1⟩ := s.computed_requests rfl
    obtain ⟨hdemand0, hdemand1, hdemand, hown⟩ := s.computed_demand rfl
    obtain ⟨hrow, hothers⟩ := s.computed_row rfl
    refine ⟨fun hnone => ?_, fun x hclear hx => ?_, fun hnone => ?_, fun x hclear hx => ?_,
      hdemand0, hdemand1, hdemand, hown, hrow, hothers, s.computed_eq rfl⟩
    · rw [hh0, hurgent, usableTemp_eq_none hnone]
      exact ⟨rfl, rfl⟩
    · rw [hh0, hurgent, usableTemp_eq_some hclear hx]
      exact ⟨heatRequest_some _ _ _, decide_eq_true_iff⟩
    · rw [hh1, usableTemp_eq_none hnone]
      rfl
    · rw [hh1, usableTemp_eq_some hclear hx]
      exact heatRequest_some _ _ _
  · rw [exec_computation_of_computes s h] at hexec
    cases hexec
    have hrecent : s.demandComputed.recentHeat = false := by
      rw [← Bool.not_eq_true, s.computed_recentHeat_iff]
      rintro ⟨x, hx, hle⟩
      exact (hlast x hx).not_ge hle
    have hrequest : s.demandAnnounced = s.demandComputed.requestHeat :=
      s.demandComputed.announceChange_of ((s.computed_demandMoved_iff rfl).mpr hmoved) hrecent
    have hnow : r = s.demandComputed.heatRequestNow := by
      rw [hr, s.computed_heater rfl]
      rfl
    rw [hnow, hrequest, s.demandComputed.requestHeat_of_empty hempty]
    exact ⟨rfl, rfl⟩
  · rw [exec_computation_of_computes s h] at hexec
    cases hexec
    have hkept : s.demandComputed.demandMoved = false ∨ s.demandComputed.recentHeat = true := by
      refine hquiet.imp (fun ⟨a, ha, hsmall⟩ => ?_) s.computed_recentHeat_iff.mpr
      rw [← Bool.not_eq_true, s.computed_demandMoved_iff rfl]
      simp only [ha, reduceCtorEq, Option.some.injEq, exists_eq_left', false_or, not_le]
      exact hsmall
    have hnone : s.demandAnnounced = s.demandComputed := s.demandComputed.announceChange_of_not hkept
    rw [hnone]
    exact ⟨rfl, rfl, rfl⟩

/-! ### The division of the grant (R180) -/

/-- The steps of a part of a demand never exceed the request the demand was made of. -/
theorem steps_le_request {part request rating : Nat} (h : part ≤ request * rating / 32) :
    part * 32 / rating ≤ request :=
  Nat.div_le_of_le_mul (by rw [Nat.mul_comm rating]; omega)

/-- An allocation divides its grant, and the outputs take the new steps at once. -/
theorem State.allocate_divides :
    s.allocate.heater.grant0 = min s.allocate.heater.G s.allocate.heater.demand0 ∧
    s.allocate.heater.grant1 = s.allocate.heater.G - s.allocate.heater.grant0 ∧
    s.allocate.heater.steps0 = s.allocate.heater.grant0 * 32 / s.loader.profile.rating0 ∧
    s.allocate.heater.steps1 = s.allocate.heater.grant1 * 32 / s.loader.profile.rating1 ∧
    (s.allocate.heater.out0 = true ↔ s.drives (625000 * s.loader.station.val) s.allocate.heater.steps0) ∧
    (s.allocate.heater.out1 = true ↔
      s.drives ((625000 * s.loader.station.val + 5000000) % 10000000) s.allocate.heater.steps1) :=
  ⟨rfl, rfl, rfl, rfl, s.allocate.heat0Level_iff, s.allocate.heat1Level_iff⟩

/-- A computation leaves what its outputs read besides the steps. -/
theorem State.demandAnnounced_drives (offset steps : Nat) :
    s.demandAnnounced.drives offset steps ↔ s.drives offset steps := by
  have hhold : s.demandAnnounced.heater.hold = s.heater.hold := by
    rw [s.demandAnnounced_eq, s.demandComputed.announceChange_heater]
    rfl
  refine State.drives_congr ?_ ?_ hhold ?_ offset steps <;> simp [State.demandAnnounced]

/-- Settles O53: the grant is within the demand, so its two parts are within the two demands. -/
theorem grantIsDivided : Obligations.GrantIsDivided := by
  refine ⟨fun s t h hexec => ?_, fun s t h => ?_⟩
  · rw [exec_computation_of_computes s h] at hexec
    cases hexec
    obtain ⟨hdemand0, hdemand1, hdemand, -⟩ := s.computed_demand rfl
    obtain ⟨hgrant0, hgrant1, hsteps0, hsteps1, -⟩ := s.demandAnnounced.allocate_divides
    have hG : s.demandAnnounced.allocate.heater.G ≤ s.demandAnnounced.allocate.heater.demand :=
      (State.announceChange_ownHeatHolds _ (State.computeDemand_ownHeatHolds _)).grant_le.1
    have hloader : s.demandAnnounced.loader = s.loader := by simp [State.demandAnnounced]
    rw [hloader] at hsteps0 hsteps1
    rw [hsteps0, hsteps1]
    exact ⟨steps_le_request (by omega), steps_le_request (by omega)⟩
  · rcases h with ⟨hcomputes, hexec⟩ | rfl
    · rw [exec_computation_of_computes s hcomputes] at hexec
      cases hexec
      have hdivides := s.demandAnnounced.allocate_divides
      have hloader : s.demandAnnounced.loader = s.loader := by simp [State.demandAnnounced]
      rw [hloader] at hdivides
      simpa only [s.demandAnnounced_drives] using hdivides
    · exact s.allocate_divides

/-! ### The announcement point (R177) -/

/-- The announcement point of this station that has just fallen is the one to take, where it is later than the last. -/
theorem State.announcementDue_of_fallen {p : Time} (hp : s.loader.phase = .running)
    (heq : p = ⟨s.clock.time.sec, 250000 + 500000 * s.loader.station.val⟩) (hlow : p.sub ≤ s.clock.time.sub)
    (hhigh : s.clock.time.sub < p.sub + s.clock.advanced) (hsec : p.sec.toNat % 60 = 0)
    (hlater : ∀ q, s.heater.lastPoint = some q → 0 < p.diff q) : s.announcementDue = some p := by
  have hfell : s.fell (250000 + 500000 * s.own.val) = some p := by
    subst heq
    exact s.fell_of_within hlow hhigh
  have hlast : laterThanLast p s.heater.lastPoint = true := by
    cases hq : s.heater.lastPoint with
    | none => rfl
    | some q => exact decide_eq_true (hlater q hq)
  simp only [State.announcementDue, hfell]
  rw [if_pos (by simp [State.isRunning, hp, hsec, hlast])]

/-- Settles O54: the point that has fallen, and the HEAT request of the demand as it stands. -/
theorem demandIsAnnouncedEachMinute : Obligations.DemandIsAnnouncedEachMinute := by
  intro s p new h hp hnew heq hlow hhigh hsec hlater
  have hdue := s.announcementDue_of_fallen hp heq hlow hhigh hsec hlater
  obtain ⟨u, hu⟩ : ∃ u : State, u = { s with heater := { s.heater with lastPoint := some p } } := ⟨_, rfl⟩
  have hexec : exec .announcementPoint s = .next u.requestHeat := by
    rw [exec_announcementPoint, carryOut_of s _ _ h (by simp [hdue]), hdue, hu]
  have hrequest : new = u.heatRequestNow := by
    rw [hnew, hu]
    rfl
  have hheater := u.requestHeat_heater
  subst hu hrequest
  refine ⟨_, hexec, by rw [hheater], by rw [hheater], by rw [hheater], fun hempty => ?_, fun r hready => ?_, ?_⟩
  · exact State.requestHeat_of_empty _ hempty
  · exact State.requestHeat_of_ready _ hready
  · exact State.requestHeat_eq _

/-! ### The quiet hold (R182, R183) -/

/-- A limit step that alone is due settles the part, where its effect leaves none due. -/
theorem State.settle_of_nextLimit {x : Limit} (hx : s.nextLimit = some x) (h : (x.effect s).isSettled = true) :
    s.settle = x.effect s := by
  have hn : (x.effect s).nextLimit = none := by simpa [State.isSettled] using h
  simp [State.settle, State.settleFor, hx, hn]

theorem State.holdLimitReached_iff {x : Time} (h : s.heater.hold = .holding x) :
    s.holdLimitReached = true ↔ (10000000 * s.loader.profile.qMax : Nat) ≤ s.clock.time.diff x := by
  simp [State.holdLimitReached, h, secondCycles]

theorem State.limitHold_of_holding {x : Time} (h : s.heater.hold = .holding x) :
    s.limitHold = State.followHeaters { s with heater := { s.heater with
      hold := .spent
      counters := { s.heater.counters with holdsLimited := min (s.heater.counters.holdsLimited + 1) 65535 } } } := by
  simp only [State.limitHold, h]
  rfl

/-- HOLD_LIMIT in a settled state, and taken as the limit step that is due. -/
theorem exec_holdLimit_of_holding {x : Time} (hhold : s.heater.hold = .holding x)
    (hreached : (10000000 * s.loader.profile.qMax : Nat) ≤ s.clock.time.diff x) :
    (s.isSettled = true → exec .holdLimit s = .next s.limitHold) ∧
    (s.nextLimit = some .hold → s.limitHold.isSettled = true → exec .holdLimit s = .next s.limitHold) := by
  refine ⟨fun h => ?_, fun hnext h => ?_⟩
  · rw [exec_holdLimit, carryOut_of s _ _ h ((s.holdLimitReached_iff hhold).mpr hreached)]
  · have hsettle : s.settle = s.limitHold := s.settle_of_nextLimit hnext h
    have hspent : s.limitHold.holdLimitReached = false := by
      rw [s.limitHold_of_holding hhold]
      rfl
    rw [exec_holdLimit, carryOut, hsettle, hspent]
    rfl

/-- A hold that a flag starts is counted. -/
theorem State.holdOnSet_of_idle (h : s.heater.hold = .idle) : s.holdOnSet = { s with heater := { s.heater with
    hold := .holding s.clock.time
    counters := { s.heater.counters with holdsStarted := min (s.heater.counters.holdsStarted + 1) 65535 } } } := by
  simp only [State.holdOnSet, h]
  rfl

/-- The outputs are quiet from the start of a hold on. -/
theorem State.holdOnSet_quiet (h : s.heater.hold = .idle) :
    s.holdOnSet.followHeaters.heater.counters.holdsStarted = min (s.heater.counters.holdsStarted + 1) 65535 ∧
    s.holdOnSet.followHeaters.heater.out0 = false ∧ s.holdOnSet.followHeaters.heater.out1 = false := by
  rw [s.holdOnSet_of_idle h]
  simp [State.followHeaters, State.heat0Level, State.heat1Level, State.heatersAllowed]

theorem State.noticeTriggered_of_idle (ht : s.heater.triggered = false) (h : s.heater.hold = .idle) :
    (s.noticeTriggered true).heater.counters.holdsStarted = min (s.heater.counters.holdsStarted + 1) 65535 ∧
    (s.noticeTriggered true).heater.out0 = false ∧ (s.noticeTriggered true).heater.out1 = false := by
  rw [State.noticeTriggered, if_neg (by simp [ht])]
  exact State.holdOnSet_quiet _ h

theorem State.noticeEvent_of_idle (he : s.heater.eventOpen = false) (h : s.heater.hold = .idle) :
    (s.noticeEvent true).heater.counters.holdsStarted = min (s.heater.counters.holdsStarted + 1) 65535 := by
  rw [State.noticeEvent, if_neg (by simp [he])]
  exact (State.holdOnSet_quiet { s with heater := { s.heater with eventOpen := true } } h).1

/-- Settles O55: the limit of the hold, its flags, and the edges of the windows. -/
theorem holdsMoveAndEnd : Obligations.HoldsMoveAndEnd := by
  refine ⟨fun s t x hhold hreached ht hout0 hout1 => ?_, fun s => ⟨⟨if_pos rfl, if_pos rfl⟩, fun hoff => ?_,
    fun hoff => ?_, fun hon => ?_, fun hon => ?_⟩, fun s h hp => ?_⟩
  · have hlimited : t = s.limitHold := by
      rw [s.limitHold_of_holding hhold]
      exact State.eq_followHeaters ht hout0 hout1
    rw [hlimited]
    exact exec_holdLimit_of_holding s hhold hreached
  · have hhold := s.noticeTriggered_hold
    refine ⟨s.noticeTriggered_triggered true, s.noticeTriggered_eventOpen true, fun hidle => ?_, fun hidle => ?_⟩
    · rw [if_pos ⟨hoff, hidle⟩] at hhold
      exact ⟨hhold, s.noticeTriggered_of_idle hoff hidle⟩
    · rwa [if_neg fun hstart => hidle hstart.2] at hhold
  · have hhold := s.noticeEvent_hold
    refine ⟨s.noticeEvent_eventOpen true, s.noticeEvent_triggered true, fun hidle => ?_, fun hidle => ?_⟩
    · rw [if_pos ⟨hoff, hidle⟩] at hhold
      exact ⟨hhold, s.noticeEvent_of_idle hoff hidle⟩
    · rwa [if_neg fun hstart => hidle hstart.2] at hhold
  · refine ⟨s.noticeTriggered_triggered false, s.noticeTriggered_release.trans ?_⟩
    cases s.heater.eventOpen <;> simp [hon]
  · refine ⟨s.noticeEvent_eventOpen false, s.noticeEvent_release.trans ?_⟩
    cases s.heater.triggered <;> simp [hon]
  · have hexec : exec .heaterWindowEdge s = .next s.followHeaters := by
      rw [exec_heaterWindowEdge, carryOut_of s _ _ h (by simp [State.isRunning, hp])]
    exact ⟨_, hexec, s.heat0Level_iff, s.heat1Level_iff, rfl⟩

end Sys2Proof.Machine
/-! ## The hatch, and the commands that wait for the end of loading (R188, R193 to R195) -/

namespace Sys2Proof.Machine

variable (s : State)

/-! ### The hatch (R194, R195) -/

/-- The filtered state follows an input that has differed from it for 500,000 cycles. -/
theorem State.hatchDue_eq_true : s.hatchDue = true ↔
    s.loader.phase ≠ .held ∧ s.pins.hatch ≠ s.loader.filteredOpen ∧ 500000 ≤ s.loader.stability := by
  simp only [State.hatchDue, State.isReleased, Bool.and_eq_true, decide_eq_true_eq, and_assoc]

theorem exec_filteredStateChange_of (h : s.isSettled = true) (hp : s.loader.phase ≠ .held)
    (hn : 500000 ≤ s.loader.stability) (hd : s.pins.hatch ≠ s.loader.filteredOpen) :
    exec .filteredStateChange s = .next { s with loader := s.loader.followHatch s.pins.hatch } := by
  rw [exec_filteredStateChange, carryOut_of s _ _ h (s.hatchDue_eq_true.mpr ⟨hp, hd, hn⟩)]
  rfl

theorem Loader.disturbedOver_eq_true (l : Loader) :
    l.disturbedOver = true ↔ l.disturbed = true ∧ l.filteredOpen = false ∧ l.disturbedTimer = 0 := by
  simp only [Loader.disturbedOver, Bool.and_eq_true, Bool.not_eq_true', decide_eq_true_eq, and_assoc]

/-- Settles O8: the level as it is set, the filtered state in the direction of its change, and the timer's end. -/
theorem hatchMarksDisturbance : Obligations.HatchMarksDisturbance := by
  refine ⟨fun s h => ⟨fun v => ?_, fun hp hn hclosed hpin => ?_, fun hp hn hopen hpin => ?_⟩,
    fun s hdisturbed hclosed htimer => ?_⟩
  · rw [exec_hatchLevelChange, carryOut_of s _ _ h rfl]
    rfl
  · rw [exec_filteredStateChange_of s h hp hn (by simp [hclosed, hpin]), hpin]
    rfl
  · rw [exec_filteredStateChange_of s h hp hn (by simp [hopen, hpin]), hpin]
    rfl
  · rw [exec_disturbedTimerExpiry,
      takeLimit_of s .disturbed (s.loader.disturbedOver_eq_true.mpr ⟨hdisturbed, hclosed, htimer⟩)]
    rfl

/-! ### Conditions that hold in RUNNING alone (R188, R193) -/

theorem State.isRunning_eq_true : s.isRunning = true ↔ s.loader.phase = .running := decide_eq_true_iff

/-- A condition that asks for RUNNING and something more asks for RUNNING. -/
theorem State.running_of_and {b : Bool} (h : (s.isRunning && b) = true) : s.loader.phase = .running :=
  s.isRunning_eq_true.mp (Bool.and_eq_true_iff.mp h).1

theorem State.running_of_entryReady {k : FrameKind} (h : s.entryReady k = true) : s.loader.phase = .running :=
  s.running_of_and (Bool.and_eq_true_iff.mp h).1

theorem State.running_of_portOpen_and {b : Bool} (h : (s.portOpen && b) = true) : s.loader.phase = .running :=
  (s.portOpen_iff.mp (Bool.and_eq_true_iff.mp h).1).1

theorem State.running_of_choiceDue (h : s.choiceDue = true) : s.loader.phase = .running := by
  simp only [State.choiceDue, State.mayChoose, Bool.and_eq_true, and_assoc] at h
  exact s.isRunning_eq_true.mp h.1

/-- A schedule point that falls in RUNNING alone. -/
theorem State.running_of_point {p : Time} {a b : Bool}
    (h : (if (s.isRunning && a && b) = true then some p else none).isSome = true) : s.loader.phase = .running := by
  rw [Option.isSome_ite, Bool.and_assoc] at h
  exact s.running_of_and h

theorem State.running_of_candidatePoint (h : s.candidatePoint.isSome = true) : s.loader.phase = .running := by
  unfold State.candidatePoint at h
  split at h
  · cases h
  · exact s.running_of_point h

theorem State.running_of_announcementDue (h : s.announcementDue.isSome = true) : s.loader.phase = .running := by
  unfold State.announcementDue at h
  split at h
  · cases h
  · exact s.running_of_point h

/-! ### Commands that wait for the end of loading -/

/-- The command's rule has a condition that holds in RUNNING alone. -/
def waitsForLoading (c : Instr) : Prop :=
  ∃ condition effect, conductOf c = .rule condition effect ∧
    ∀ s : State, condition s = true → s.loader.phase = .running

/-- Before the end of loading such a command leaves the state as it was (assumption log 3). -/
theorem exec_of_waitsForLoading {c : Instr} (hc : waitsForLoading c) (h : s.isSettled = true)
    (hp : s.loader.phase ≠ .running) : exec c s = .next s := by
  obtain ⟨condition, effect, hrule, hrunning⟩ := hc
  rw [exec_eq_conduct, hrule]
  exact carryOut_of_not s condition effect h (Bool.eq_false_of_not_eq_true fun ht => hp (hrunning s ht))

section waits

variable {c : Instr} {effect : State → State}

theorem waitsForLoading_of_running (h : conductOf c = .rule State.isRunning effect) : waitsForLoading c :=
  ⟨_, _, h, fun s => s.isRunning_eq_true.mp⟩

theorem waitsForLoading_of_running_and {more : State → Bool}
    (h : conductOf c = .rule (fun s => s.isRunning && more s) effect) : waitsForLoading c :=
  ⟨_, _, h, fun s => s.running_of_and⟩

theorem waitsForLoading_of_portOpen_and {more : State → Bool}
    (h : conductOf c = .rule (fun s => s.portOpen && more s) effect) : waitsForLoading c :=
  ⟨_, _, h, fun s => s.running_of_portOpen_and⟩

theorem waitsForLoading_of_requestReady {i : Instr} (h : conductOf c = .rule (fun s => s.requestReady i) effect) :
    waitsForLoading c :=
  ⟨_, _, h, fun s => s.running_of_and⟩

end waits

/-- The commands that take an entry of the inbound queue. -/
theorem waitsForLoading_inbound (k : FrameKind) : waitsForLoading k.instr :=
  ⟨fun s => s.entryReady k, fun s => s.inbound k.apply, by cases k <;> rfl, fun s => s.running_of_entryReady⟩

theorem waitsForLoading_setArrival (bits : BitVec 72) : waitsForLoading (.setArrival bits) :=
  ⟨State.setExpected, _, rfl, fun s => s.running_of_portOpen_and⟩

theorem waitsForLoading_tick : waitsForLoading .tick := ⟨_, _, rfl, fun s => s.tickDue_running⟩

theorem waitsForLoading_choice : waitsForLoading .choice := ⟨_, _, rfl, fun s => s.running_of_choiceDue⟩

theorem waitsForLoading_beaconCandidatePoint : waitsForLoading .beaconCandidatePoint :=
  ⟨_, _, rfl, fun s => s.running_of_candidatePoint⟩

theorem waitsForLoading_announcementPoint : waitsForLoading .announcementPoint :=
  ⟨_, _, rfl, fun s => s.running_of_announcementDue⟩

/-- Settles O9: each of the commands, in the order of the list, has a condition that holds in RUNNING alone. -/
theorem loadingTakesNothing : Obligations.LoadingTakesNothing := by
  refine fun s c h hp hc => exec_of_waitsForLoading s ?_ h hp
  rcases hc with hc | ⟨b, stop, rfl⟩ | ⟨bits, rfl⟩
  · revert c
    simp only [List.forall_mem_cons]
    exact ⟨waitsForLoading_of_running rfl, waitsForLoading_of_running_and rfl, waitsForLoading_of_running_and rfl,
      waitsForLoading_of_running_and rfl, waitsForLoading_of_running_and rfl, waitsForLoading_of_portOpen_and rfl,
      waitsForLoading_of_portOpen_and rfl, waitsForLoading_tick, waitsForLoading_inbound .beacon,
      waitsForLoading_inbound .onset, waitsForLoading_inbound .coda, waitsForLoading_inbound .heat,
      waitsForLoading_inbound .alert, waitsForLoading_inbound .alertRaise, waitsForLoading_inbound .query,
      waitsForLoading_inbound .reply, waitsForLoading_of_requestReady rfl, waitsForLoading_of_requestReady rfl,
      waitsForLoading_of_requestReady rfl, waitsForLoading_of_requestReady rfl, waitsForLoading_of_running_and rfl,
      waitsForLoading_of_requestReady rfl, waitsForLoading_of_requestReady rfl, waitsForLoading_of_running_and rfl,
      waitsForLoading_of_running_and rfl, waitsForLoading_of_running_and rfl, waitsForLoading_announcementPoint,
      waitsForLoading_of_running rfl, waitsForLoading_beaconCandidatePoint, waitsForLoading_choice,
      List.forall_mem_nil _⟩
  · exact waitsForLoading_of_running rfl
  · exact waitsForLoading_setArrival bits

end Sys2Proof.Machine

/-! # The front of the queue (assumption log 1) -/

namespace Sys2Proof.Machine

/-- Settles O1: a queue with a front takes the first branch of `step`, before any command of the part's own. -/
theorem stepRunsFrontCommand : Obligations.StepRunsFrontCommand := by
  intro c rest s hfront
  unfold step
  rw [hfront]

end Sys2Proof.Machine
